-- ==== Sys2Proof/Word.lean ====
section
/-!
DEFINITION. The word types of the engine, at the widths of 00_scope.md R5.
Every value is unsigned (R9); a width that the spec gives as a parameter with a value is fixed at that value.
-/

namespace Sys2Proof

/-- XLEN = 32 bits (R5 P4): a packet word, a registration mask, an operand of the Bit Scanner;
also NW = 32 (P8), a pending-signal word, and CW = 32 (P10). -/
abbrev Word := BitVec 32

/-- W = 16 bits (R5 P2): a ScanWord, bit p being the contact at bit position p, 0 closed and 1 open (R11, R85);
also the output word of a transfer. -/
abbrev Sample := BitVec 16

/-- DW = 16 bits (R5 P7): a duration or a countdown, in ticks. -/
abbrev Ticks := BitVec 16

end Sys2Proof
end

