-- ==== Sys2Proof/Syntax.lean ====
section
/-!
DEFINITION. The operations of 30_encoding.md R80, their formats (R81), and the enumerations their arguments range over.
One constructor of `Instr` for every row of spec/opcode_table.json.
-/

namespace Sys2Proof

/-- `kind` (R25, R83). -/
inductive Kind where
  | pushbutton
  | pair
  deriving DecidableEq, Repr, Inhabited

/-- `mode` (R30, R83). -/
inductive Mode where
  | immediate
  | settled
  deriving DecidableEq, Repr, Inhabited

/-- `machine_state` (R29, R82). -/
inductive MachineState where
  | closed
  | opened
  | closing
  | opening
  deriving DecidableEq, Repr, Inhabited

/-- The rows of the DISP selector (R94). -/
inductive DispRow where
  | none
  | pb
  | pair
  deriving DecidableEq, Repr

/-- The rows of the PBEV selector (R94). -/
inductive PbRow where
  | openInstant
  | openImm
  | openSet
  | closeInstant
  | closeImm
  | closeSet
  | extendOpening
  | extendClosing
  | noneClosed
  | noneOpen
  deriving DecidableEq, Repr

/-- The rows of the SETL selector (R94). -/
inductive SettleRow where
  | openingConfirmImm
  | openingConfirmSet
  | openingBounceImm
  | openingBounceSet
  | closingConfirmImm
  | closingConfirmSet
  | closingBounceImm
  | closingBounceSet
  deriving DecidableEq, Repr

/-- The rows of the PAIR selector (R94). -/
inductive PairRow where
  | ignore00
  | ignore11
  | commit01
  | same01
  | commit10
  | same10
  deriving DecidableEq, Repr

/-- The rows of the TMEM selector (R94). -/
inductive TickRow where
  | hold
  | expire
  deriving DecidableEq, Repr

/-- The operations of the engine (R80). A handle or position is a plain number here; `Instr.WellFormed` bounds it. -/
inductive Instr where
  | reset
  | register (consumer : BitVec 4) (notifyValue maskPrimary maskSecondary : Word) (kind : Kind) (mode : Mode)
      (durationClosing durationOpening : Ticks)
  | start
  | setout (w : Sample)
  | rddeb (h : Nat)
  | take (c : BitVec 4)
  | xferDone (rx : Sample)
  | dispNone (pos : Nat)
  | dispPb (pos : Nat)
  | dispPair (pos : Nat)
  | pbOpenInstant (h : Nat)
  | pbOpenImm (h : Nat)
  | pbOpenSet (h : Nat)
  | pbCloseInstant (h : Nat)
  | pbCloseImm (h : Nat)
  | pbCloseSet (h : Nat)
  | pbExtendOpening (h : Nat)
  | pbExtendClosing (h : Nat)
  | pbNoneClosed (h : Nat)
  | pbNoneOpen (h : Nat)
  | settleOpeningConfirmImm (h : Nat)
  | settleOpeningConfirmSet (h : Nat)
  | settleOpeningBounceImm (h : Nat)
  | settleOpeningBounceSet (h : Nat)
  | settleClosingConfirmImm (h : Nat)
  | settleClosingConfirmSet (h : Nat)
  | settleClosingBounceImm (h : Nat)
  | settleClosingBounceSet (h : Nat)
  | pairIgnore00 (h : Nat)
  | pairIgnore11 (h : Nat)
  | pairCommit01 (h : Nat)
  | pairSame01 (h : Nat)
  | pairCommit10 (h : Nat)
  | pairSame10 (h : Nat)
  | tickHold (h : Nat)
  | tickExpire (h : Nat)
  deriving DecidableEq, Repr

/-- The eight formats (R81). -/
inductive Format where
  | cmd
  | link
  | pin
  | disp
  | pbev
  | setl
  | pair
  | tmem
  deriving DecidableEq, Repr

/-- An operation as bits, in one of the eight formats (R81). PIN, CMD and LINK are what an agent sends; the five
selector formats carry their selector (R94) and the argument of R80 (a 5-bit position, an 8-bit handle). Log 9. -/
inductive Frame where
  | pin
  | cmd (words : List Word)
  | link (rx : Sample)
  | disp (sel : BitVec 2) (pos : BitVec 5)
  | pbev (sel : BitVec 5) (h : BitVec 8)
  | setl (sel : BitVec 4) (h : BitVec 8)
  | pair (sel : BitVec 3) (h : BitVec 8)
  | tmem (sel : BitVec 1) (h : BitVec 8)
  deriving DecidableEq, Repr

def Frame.format : Frame → Format
  | .pin => .pin
  | .cmd _ => .cmd
  | .link _ => .link
  | .disp _ _ => .disp
  | .pbev _ _ => .pbev
  | .setl _ _ => .setl
  | .pair _ _ => .pair
  | .tmem _ _ => .tmem

/-- What an agent of R7 can send: "A selector is not something an agent sends" (R81). -/
def Frame.fromAgent : Frame → Bool
  | .pin => true
  | .cmd _ => true
  | .link _ => true
  | .disp _ _ => false
  | .pbev _ _ => false
  | .setl _ _ => false
  | .pair _ _ => false
  | .tmem _ _ => false

/-- Why the decoder gives a frame no meaning (R93: "a model must `refuse` them"). -/
inductive Reject where
  /-- A packet of no word: there is no header to read. -/
  | emptyPacket
  /-- `op` is 0 or 6 to 15 (R92). -/
  | reservedOp
  /-- A non-zero bit where the row's mask demands zero (R93). -/
  | reservedBits
  /-- Fewer words than R89 gives the `op`. Log 12. -/
  | truncatedPacket
  /-- More words than R89 gives the `op`. Log 12. -/
  | overlongPacket
  /-- A SETOUT whose word 1 has a bit set at or above W (R93). -/
  | outputWordTooWide
  /-- A SETL selector with s1 = 0, for which R94 has no row. -/
  | settledSelector
  deriving DecidableEq, Repr

/-- The format column of R80 and R81. -/
def Instr.format : Instr → Format
  | .reset => .pin
  | .register _ _ _ _ _ _ _ _ => .cmd
  | .start => .cmd
  | .setout _ => .cmd
  | .rddeb _ => .cmd
  | .take _ => .cmd
  | .xferDone _ => .link
  | .dispNone _ => .disp
  | .dispPb _ => .disp
  | .dispPair _ => .disp
  | .pbOpenInstant _ => .pbev
  | .pbOpenImm _ => .pbev
  | .pbOpenSet _ => .pbev
  | .pbCloseInstant _ => .pbev
  | .pbCloseImm _ => .pbev
  | .pbCloseSet _ => .pbev
  | .pbExtendOpening _ => .pbev
  | .pbExtendClosing _ => .pbev
  | .pbNoneClosed _ => .pbev
  | .pbNoneOpen _ => .pbev
  | .settleOpeningConfirmImm _ => .setl
  | .settleOpeningConfirmSet _ => .setl
  | .settleOpeningBounceImm _ => .setl
  | .settleOpeningBounceSet _ => .setl
  | .settleClosingConfirmImm _ => .setl
  | .settleClosingConfirmSet _ => .setl
  | .settleClosingBounceImm _ => .setl
  | .settleClosingBounceSet _ => .setl
  | .pairIgnore00 _ => .pair
  | .pairIgnore11 _ => .pair
  | .pairCommit01 _ => .pair
  | .pairSame01 _ => .pair
  | .pairCommit10 _ => .pair
  | .pairSame10 _ => .pair
  | .tickHold _ => .tmem
  | .tickExpire _ => .tmem

/-- The DISP transition of a selector row at a position (R94). -/
def Instr.ofDisp : DispRow → Nat → Instr
  | .none, pos => .dispNone pos
  | .pb, pos => .dispPb pos
  | .pair, pos => .dispPair pos

/-- The PBEV transition of a selector row for a handle (R94). -/
def Instr.ofPb : PbRow → Nat → Instr
  | .openInstant, h => .pbOpenInstant h
  | .openImm, h => .pbOpenImm h
  | .openSet, h => .pbOpenSet h
  | .closeInstant, h => .pbCloseInstant h
  | .closeImm, h => .pbCloseImm h
  | .closeSet, h => .pbCloseSet h
  | .extendOpening, h => .pbExtendOpening h
  | .extendClosing, h => .pbExtendClosing h
  | .noneClosed, h => .pbNoneClosed h
  | .noneOpen, h => .pbNoneOpen h

/-- The SETL transition of a selector row for a handle (R94). -/
def Instr.ofSettle : SettleRow → Nat → Instr
  | .openingConfirmImm, h => .settleOpeningConfirmImm h
  | .openingConfirmSet, h => .settleOpeningConfirmSet h
  | .openingBounceImm, h => .settleOpeningBounceImm h
  | .openingBounceSet, h => .settleOpeningBounceSet h
  | .closingConfirmImm, h => .settleClosingConfirmImm h
  | .closingConfirmSet, h => .settleClosingConfirmSet h
  | .closingBounceImm, h => .settleClosingBounceImm h
  | .closingBounceSet, h => .settleClosingBounceSet h

/-- The PAIR transition of a selector row for a handle (R94). -/
def Instr.ofPair : PairRow → Nat → Instr
  | .ignore00, h => .pairIgnore00 h
  | .ignore11, h => .pairIgnore11 h
  | .commit01, h => .pairCommit01 h
  | .same01, h => .pairSame01 h
  | .commit10, h => .pairCommit10 h
  | .same10, h => .pairSame10 h

/-- The TMEM transition of a selector row for a handle (R94). -/
def Instr.ofTick : TickRow → Nat → Instr
  | .hold, h => .tickHold h
  | .expire, h => .tickExpire h

end Sys2Proof
end

