-- ==== Sys2Proof/WellFormed.lean ====
section
/-!
DEFINITION. What makes an operation's arguments fit its encoding (30_encoding.md R86, R9).
A handle fits the 8-bit field of R86; a bit position is an index 0 .. XLEN-1 (R9).
The other arguments fit by their types.
-/

namespace Sys2Proof

/-- The 8-bit handle field of R86. -/
def handleFits (h : Nat) : Bool := h < 256

/-- A bit position is an index 0 .. XLEN-1 (R9). -/
def positionFits (pos : Nat) : Bool := pos < 32

def Instr.WellFormed : Instr → Bool
  | .reset => true
  | .register _ _ _ _ _ _ _ _ => true
  | .start => true
  | .setout _ => true
  | .rddeb h => handleFits h
  | .take _ => true
  | .xferDone _ => true
  | .dispNone pos => positionFits pos
  | .dispPb pos => positionFits pos
  | .dispPair pos => positionFits pos
  | .pbOpenInstant h => handleFits h
  | .pbOpenImm h => handleFits h
  | .pbOpenSet h => handleFits h
  | .pbCloseInstant h => handleFits h
  | .pbCloseImm h => handleFits h
  | .pbCloseSet h => handleFits h
  | .pbExtendOpening h => handleFits h
  | .pbExtendClosing h => handleFits h
  | .pbNoneClosed h => handleFits h
  | .pbNoneOpen h => handleFits h
  | .settleOpeningConfirmImm h => handleFits h
  | .settleOpeningConfirmSet h => handleFits h
  | .settleOpeningBounceImm h => handleFits h
  | .settleOpeningBounceSet h => handleFits h
  | .settleClosingConfirmImm h => handleFits h
  | .settleClosingConfirmSet h => handleFits h
  | .settleClosingBounceImm h => handleFits h
  | .settleClosingBounceSet h => handleFits h
  | .pairIgnore00 h => handleFits h
  | .pairIgnore11 h => handleFits h
  | .pairCommit01 h => handleFits h
  | .pairSame01 h => handleFits h
  | .pairCommit10 h => handleFits h
  | .pairSame10 h => handleFits h
  | .tickHold h => handleFits h
  | .tickExpire h => handleFits h

end Sys2Proof
end

