-- ==== Sys2Proof/Decode.lean ====
section
/-!
DEFINITION. The decoders of 30_encoding.md R86 to R94, total on any frame and rejecting by name, and the encoder.
-/

namespace Sys2Proof

/-! ### Enumerations as bits (R82, R83) -/

def Kind.bit : Kind → BitVec 1
  | .pushbutton => 0#1
  | .pair => 1#1

def Kind.ofBool : Bool → Kind
  | false => .pushbutton
  | true => .pair

def Mode.bit : Mode → BitVec 1
  | .immediate => 0#1
  | .settled => 1#1

def Mode.ofBool : Bool → Mode
  | false => .immediate
  | true => .settled

def MachineState.bits : MachineState → BitVec 2
  | .closed => 0b00#2
  | .opened => 0b01#2
  | .closing => 0b10#2
  | .opening => 0b11#2

/-! ### The host command packet (R86 to R93) -/

/-- The five host commands of R92. -/
inductive CmdOp where
  | register
  | start
  | setout
  | rddeb
  | take
  deriving DecidableEq, Repr

/-- One row of the opcode map of R92: a header `w` selects it when `w and mask = value`. -/
structure CmdRow where
  op    : CmdOp
  value : Word
  mask  : Word
  deriving DecidableEq, Repr

def cmdRows : List CmdRow :=
  [ ⟨.register, 0x10000000#32, 0xF0FCFFFF#32⟩,
    ⟨.start,    0x20000000#32, 0xFFFFFFFF#32⟩,
    ⟨.setout,   0x30000000#32, 0xFFFFFFFF#32⟩,
    ⟨.rddeb,    0x40000000#32, 0xFFFFFF00#32⟩,
    ⟨.take,     0x50000000#32, 0xF0FFFFFF#32⟩ ]

/-- The row of R92 that a header selects. -/
def cmdRowOf (w : Word) : Option CmdRow := cmdRows.find? fun r => w &&& r.mask == r.value

/-- `op`, bits 31:28 of a header (R86). -/
def headerOp (w : Word) : BitVec 4 := w.extractLsb' 28 4

/-- The length of a packet in words, a function of `op` alone (R89); none where `op` is reserved (R92). -/
def packetWords (op : BitVec 4) : Option Nat :=
  if op = 1#4 then some 5
  else if op = 3#4 then some 2
  else if op = 2#4 ∨ op = 4#4 ∨ op = 5#4 then some 1
  else none

/-- Why a header that no row of R92 selects is malformed (R93). -/
def headerReject (w : Word) : Reject :=
  match packetWords (headerOp w) with
  | some _ => .reservedBits
  | none => .reservedOp

/-- One packet from the front of a list of words, and the words after it (R89, R90). -/
def decodeCmd : List Word → Except Reject (Instr × List Word)
  | [] => .error .emptyPacket
  | w :: rest =>
    match cmdRowOf w with
    | none => .error (headerReject w)
    | some r =>
      match r.op, rest with
      | .register, w1 :: w2 :: w3 :: w4 :: tail =>
        .ok (.register (w.extractLsb' 24 4) w1 w2 w3 (Kind.ofBool (w.getLsbD 16)) (Mode.ofBool (w.getLsbD 17))
          (w4.extractLsb' 0 16) (w4.extractLsb' 16 16), tail)
      | .register, _ => .error .truncatedPacket
      | .start, tail => .ok (.start, tail)
      | .setout, w1 :: tail =>
        if w1.extractLsb' 16 16 = 0#16 then .ok (.setout (w1.extractLsb' 0 16), tail)
        else .error .outputWordTooWide
      | .setout, [] => .error .truncatedPacket
      | .rddeb, tail => .ok (.rddeb (w.extractLsb' 0 8).toNat, tail)
      | .take, tail => .ok (.take (w.extractLsb' 24 4), tail)

/-- A frame of format CMD is one packet and nothing more. Log 12. -/
def decodePacket (ws : List Word) : Except Reject Instr :=
  match decodeCmd ws with
  | .error r => .error r
  | .ok (i, []) => .ok i
  | .ok (_, _ :: _) => .error .overlongPacket

/-! ### The selectors of the internal transitions (R94), most significant bit first -/

/-- DISP, {o, k}. -/
def decodeDisp (sel : BitVec 2) : DispRow :=
  match sel.getLsbD 1, sel.getLsbD 0 with
  | false, _ => .none
  | true, false => .pb
  | true, true => .pair

/-- PBEV, {s1, s0, r, z, m}. -/
def decodePbev (sel : BitVec 5) : PbRow :=
  match sel.getLsbD 4, sel.getLsbD 3, sel.getLsbD 2, sel.getLsbD 1, sel.getLsbD 0 with
  | false, false, true, true, _ => .openInstant
  | false, false, true, false, false => .openImm
  | false, false, true, false, true => .openSet
  | false, true, false, true, _ => .closeInstant
  | false, true, false, false, false => .closeImm
  | false, true, false, false, true => .closeSet
  | true, true, _, _, _ => .extendOpening
  | true, false, _, _, _ => .extendClosing
  | false, false, false, _, _ => .noneClosed
  | false, true, true, _, _ => .noneOpen

/-- SETL, {s1, s0, r, m}; no row has s1 = 0. -/
def decodeSetl (sel : BitVec 4) : Option SettleRow :=
  match sel.getLsbD 3, sel.getLsbD 2, sel.getLsbD 1, sel.getLsbD 0 with
  | true, true, true, false => some .openingConfirmImm
  | true, true, true, true => some .openingConfirmSet
  | true, true, false, false => some .openingBounceImm
  | true, true, false, true => some .openingBounceSet
  | true, false, false, false => some .closingConfirmImm
  | true, false, false, true => some .closingConfirmSet
  | true, false, true, false => some .closingBounceImm
  | true, false, true, true => some .closingBounceSet
  | false, _, _, _ => none

/-- PAIR, {c1, c0, e}. -/
def decodePair (sel : BitVec 3) : PairRow :=
  match sel.getLsbD 2, sel.getLsbD 1, sel.getLsbD 0 with
  | false, false, _ => .ignore00
  | true, true, _ => .ignore11
  | false, true, false => .commit01
  | false, true, true => .same01
  | true, false, false => .commit10
  | true, false, true => .same10

/-- TMEM, {z}. -/
def decodeTmem (sel : BitVec 1) : TickRow :=
  match sel.getLsbD 0 with
  | false => .hold
  | true => .expire

/-! ### The decoder -/

/-- The operation a frame stands for, or why it stands for none. -/
def decode : Frame → Except Reject Instr
  | .pin => .ok .reset
  | .cmd ws => decodePacket ws
  | .link rx => .ok (.xferDone rx)
  | .disp sel pos => .ok (Instr.ofDisp (decodeDisp sel) pos.toNat)
  | .pbev sel h => .ok (Instr.ofPb (decodePbev sel) h.toNat)
  | .setl sel h =>
    match decodeSetl sel with
    | some row => .ok (Instr.ofSettle row h.toNat)
    | none => .error .settledSelector
  | .pair sel h => .ok (Instr.ofPair (decodePair sel) h.toNat)
  | .tmem sel h => .ok (Instr.ofTick (decodeTmem sel) h.toNat)

/-! ### The encoder -/

/-- A header word of R86 from its fields, the reserved ones zero. -/
def encodeHeader (op consumer : BitVec 4) (mode kind : BitVec 1) (handle : BitVec 8) : Word :=
  op ++ consumer ++ 0#6 ++ mode ++ kind ++ 0#8 ++ handle

/-- The frame of an operation; a letter of a selector pattern (a bit the transition does not test, R94) is encoded 0. Log 14. -/
def encode : Instr → Frame
  | .reset => .pin
  | .register c nv mp ms kind mode dc dop =>
    .cmd [encodeHeader 1#4 c mode.bit kind.bit 0#8, nv, mp, ms, dop ++ dc]
  | .start => .cmd [encodeHeader 2#4 0#4 0#1 0#1 0#8]
  | .setout w => .cmd [encodeHeader 3#4 0#4 0#1 0#1 0#8, 0#16 ++ w]
  | .rddeb h => .cmd [encodeHeader 4#4 0#4 0#1 0#1 (BitVec.ofNat 8 h)]
  | .take c => .cmd [encodeHeader 5#4 c 0#1 0#1 0#8]
  | .xferDone rx => .link rx
  | .dispNone pos => .disp 0b00#2 (BitVec.ofNat 5 pos)
  | .dispPb pos => .disp 0b10#2 (BitVec.ofNat 5 pos)
  | .dispPair pos => .disp 0b11#2 (BitVec.ofNat 5 pos)
  | .pbOpenInstant h => .pbev 0b00110#5 (BitVec.ofNat 8 h)
  | .pbOpenImm h => .pbev 0b00100#5 (BitVec.ofNat 8 h)
  | .pbOpenSet h => .pbev 0b00101#5 (BitVec.ofNat 8 h)
  | .pbCloseInstant h => .pbev 0b01010#5 (BitVec.ofNat 8 h)
  | .pbCloseImm h => .pbev 0b01000#5 (BitVec.ofNat 8 h)
  | .pbCloseSet h => .pbev 0b01001#5 (BitVec.ofNat 8 h)
  | .pbExtendOpening h => .pbev 0b11000#5 (BitVec.ofNat 8 h)
  | .pbExtendClosing h => .pbev 0b10000#5 (BitVec.ofNat 8 h)
  | .pbNoneClosed h => .pbev 0b00000#5 (BitVec.ofNat 8 h)
  | .pbNoneOpen h => .pbev 0b01100#5 (BitVec.ofNat 8 h)
  | .settleOpeningConfirmImm h => .setl 0b1110#4 (BitVec.ofNat 8 h)
  | .settleOpeningConfirmSet h => .setl 0b1111#4 (BitVec.ofNat 8 h)
  | .settleOpeningBounceImm h => .setl 0b1100#4 (BitVec.ofNat 8 h)
  | .settleOpeningBounceSet h => .setl 0b1101#4 (BitVec.ofNat 8 h)
  | .settleClosingConfirmImm h => .setl 0b1000#4 (BitVec.ofNat 8 h)
  | .settleClosingConfirmSet h => .setl 0b1001#4 (BitVec.ofNat 8 h)
  | .settleClosingBounceImm h => .setl 0b1010#4 (BitVec.ofNat 8 h)
  | .settleClosingBounceSet h => .setl 0b1011#4 (BitVec.ofNat 8 h)
  | .pairIgnore00 h => .pair 0b000#3 (BitVec.ofNat 8 h)
  | .pairIgnore11 h => .pair 0b110#3 (BitVec.ofNat 8 h)
  | .pairCommit01 h => .pair 0b010#3 (BitVec.ofNat 8 h)
  | .pairSame01 h => .pair 0b011#3 (BitVec.ofNat 8 h)
  | .pairCommit10 h => .pair 0b100#3 (BitVec.ofNat 8 h)
  | .pairSame10 h => .pair 0b101#3 (BitVec.ofNat 8 h)
  | .tickHold h => .tmem 0b0#1 (BitVec.ofNat 8 h)
  | .tickExpire h => .tmem 0b1#1 (BitVec.ofNat 8 h)

/-! ### Words as spec/opcode_table.json numbers them -/

/-- The words of a packet whose bits are `w`, the first word in the least significant bits; as many as R89 gives the
first word's `op`, one where the `op` is reserved. -/
def tablePacket (w : Nat) : List Word :=
  let n := (packetWords (headerOp (BitVec.ofNat 32 w))).getD 1
  (List.range n).map fun i => BitVec.ofNat 32 (w >>> (32 * i))

/-- The frame of an instruction whose table row has `nbits` bits of value `w`: none is the PIN format, 16 the LINK
format, 32 or more a CMD packet, and 2, 5, 4, 3, 1 the selector formats with a zero argument. No other length is a row
of the table, and eight bits would fit every selector format: such a word has no packet. Log 13. -/
def tableFrame (nbits w : Nat) : Frame :=
  let v := w % 2 ^ nbits
  match nbits with
  | 0 => .pin
  | 1 => .tmem (BitVec.ofNat 1 v) 0#8
  | 2 => .disp (BitVec.ofNat 2 v) 0#5
  | 3 => .pair (BitVec.ofNat 3 v) 0#8
  | 4 => .setl (BitVec.ofNat 4 v) 0#8
  | 5 => .pbev (BitVec.ofNat 5 v) 0#8
  | 16 => .link (BitVec.ofNat 16 v)
  | n => if 32 ≤ n then .cmd (tablePacket v) else .cmd []

/-- The instruction the decoder reads from a row's bits. -/
def decodeTableWord (nbits w : Nat) : Option Instr :=
  match decode (tableFrame nbits w) with
  | .ok i => some i
  | .error _ => none

end Sys2Proof
end

