-- ==== Sys2Proof/Config.lean ====
section
/-!
DEFINITION. What an implementation of the engine fixes, and the free values.
The OPEN parameters of 00_scope.md R5 have no value in the spec: they are opaque constants, so nothing is proved of their values.
-/

namespace Sys2Proof

/-- SCAN_DIR (R5 P11): which set bit the Bit Scanner returns, least or most significant first. -/
inductive ScanDir where
  | lsf
  | msf
  deriving DecidableEq, Repr, Inhabited

/-- LATE_REG (R5 P12): what REGISTER does once the driver is armed (R151). -/
inductive LateReg where
  | fatal
  | allow
  deriving DecidableEq, Repr, Inhabited

/-- The parameters a claim must hold for every value of (R5; 92_eei_decisions.md, the open parameters). -/
structure Params where
  /-- K - 1, so that K >= 1 (R6) needs no side condition. -/
  kPred    : Nat
  /-- N_DISCARD >= 0 (P6). -/
  nDiscard : Nat
  scanDir  : ScanDir
  lateReg  : LateReg
  deriving DecidableEq, Repr, Inhabited

/-- K, the scan cycles per debounce tick (R5 P5), at least 1. -/
abbrev Params.k (p : Params) : Nat := p.kPred + 1

/-- The prefix of the dispatch loop whose effects stand after Fatal(4), and the value PREV then has
(60_exceptions.md R246, 93_implementation_defined.md U8). -/
structure HaltDraw where
  passes : Nat
  dir    : ScanDir
  prev   : Sample
  deriving DecidableEq, Repr, Inhabited

/-- K - 1 of the board: OPEN (R5 P5). Log 4. -/
opaque Config.kPred : Nat

/-- N_DISCARD of the board: OPEN (R5 P6). Log 4. -/
opaque Config.nDiscard : Nat

/-- SCAN_DIR of the board: OPEN (R5 P11). Log 4. -/
opaque Config.scanDir : ScanDir

/-- Free value: what the n-th Fatal(4) leaves in D, HEAD, PEND and PREV (R246). Log 7. -/
opaque Config.haltDraw : Nat → HaltDraw

/-- The parameters at power-up: three OPEN ones and LATE_REG at its value FATAL (R5 P12). Log 4. -/
def Config.board : Params :=
  { kPred := Config.kPred, nDiscard := Config.nDiscard, scanDir := Config.scanDir, lateReg := .fatal }

/-- N = 16 registry slots (R5 P3). -/
abbrev Config.nSlots : Nat := 16

/-- OUTW_RESET = 0 (R5 P14). -/
abbrev Config.outwReset : Sample := 0#16

end Sys2Proof
end

