-- ==== Sys2Proof/Machine/State.lean ====
section
/-!
DEFINITION. The state of the engine (10_state.md R20 to R44), the reasons a step stops, and the state after reset (R48).
-/

namespace Sys2Proof.Machine

open Sys2Proof

/-- A switch descriptor: the 13 fields of R24. -/
structure Descriptor where
  kind            : Kind
  bitPrimary      : BitVec 5
  bitSecondary    : BitVec 5
  raw             : BitVec 2
  debounced       : BitVec 2
  machineState    : MachineState
  mode            : Mode
  durationClosing : Ticks
  durationOpening : Ticks
  countdown       : Ticks
  consumer        : BitVec 4
  notifyValue     : Word
  next            : Option Nat
  deriving DecidableEq, Repr

/-- What exists only inside a step (R43 (1), (2)): the working copy of the changed-bits word, the sample of this cycle
and the previous-node cursor of the tick walk. Log 8. -/
structure Scratch where
  work     : Word
  rx       : Sample
  prevNode : Option Nat
  deriving DecidableEq, Repr

/-- The scratch at every boundary between steps. -/
def Scratch.idle : Scratch := { work := 0#32, rx := 0#16, prevNode := none }

/-- What leaves the engine: `emit XFER_ISSUE(tx)` and `return v` (R10, R91). -/
inductive Output where
  | issue (tx : Sample)
  | response (v : Word)
  deriving DecidableEq, Repr

/-- The state: the tuple of R20, the scratch of R43, the parameters of R5, and the model's own `inbox`, `outbox` and
`draws` (logs 1, 3, 7). -/
structure State where
  /-- K, N_DISCARD, SCAN_DIR, LATE_REG (R5, R44): written by nothing. -/
  params  : Params
  /-- D (R24): the descriptors that exist, in handle order; NDESC is its length (R36). Log 6. -/
  descs   : List Descriptor
  /-- REG (R35): the slots 0 .. N-1; N is its length. Log 5. -/
  reg     : List (Option Nat)
  /-- PEND (R42). -/
  pend    : Vector Word 16
  /-- HEAD (R37). -/
  head    : Option Nat
  /-- PREV (R38). -/
  prev    : Sample
  /-- OUTW (R39). -/
  outw    : Sample
  /-- CYC (R40). -/
  cyc     : BitVec 32
  /-- DIV (R40). -/
  div     : Nat
  /-- SKIP (R41). -/
  skip    : Nat
  /-- ARMED (R22). -/
  armed   : Bool
  /-- HALTED (R22). -/
  halted  : Bool
  /-- ERR (R22, R241). -/
  err     : BitVec 4
  scratch : Scratch
  /-- The frames the agents have still to send, in the order of the steps (R66). -/
  inbox   : List Frame
  /-- What the engine has emitted, newest first. -/
  outbox  : List Output
  /-- How many free values have been drawn. -/
  draws   : Nat
  deriving DecidableEq, Repr

/-- The reasons a step is stuck: no step of that kind is enabled. -/
inductive Fault where
  /-- Raised by every operation but RESET while HALTED = 1: "no step of any agent is enabled except RESET" (R74).
  Safe: the hardware does nothing either. Log 10. -/
  | halted
  /-- Raised by XFER_DONE while ARMED = 0: no transfer is outstanding (R74, 93_implementation_defined.md U13). Safe. Log 10. -/
  | noTransfer
  /-- Raised by an internal transition whose selector the state does not show (R94), and by a settle in a settled state,
  for which R94 has no row. Safe: the hardware does not fire it. Logs 9, 15. -/
  | notSelected
  /-- Raised where a handle names no descriptor, h >= NDESC (R24). Safe: no run reaches it through REG or HEAD. Log 15. -/
  | noDescriptor
  /-- Raised by TICK where the list from HEAD has more links than descriptors, so does not end (R216 says it does).
  Safe: no run reaches it. Log 15. -/
  | endlessSet
  /-- Raised by the dispatch loop where the working copy is not zero after XLEN passes. Safe: R142 says it never
  happens. Log 15. -/
  | scanUnfinished
  deriving DecidableEq, Repr

/-- The inputs the spec gives no meaning (R10 `refuse`, R93). -/
inductive Refusal where
  /-- Raised by exec for an instruction that has no meaning yet. Safe. -/
  | notModelled (mnemonic : String)
  /-- Raised by step for a frame the decoder rejects (R93). Safe. Log 11. -/
  | malformedFrame (r : Reject)
  /-- Raised by REGISTER: kind = Pushbutton with a secondary mask (R153 (i)). Safe. Log 11. -/
  | kindMaskMismatch
  /-- Raised by REGISTER: a mask with more than one bit set (R153 (ii), (iii)). Safe. Log 11. -/
  | severalBits
  /-- Raised by START once ARMED = 1 (R158). Safe. Log 11. -/
  | secondStart
  /-- Raised by RDDEB of a handle >= NDESC (R225). Safe. Log 11. -/
  | unknownHandle
  deriving DecidableEq, Repr

/-- The fatal errors (60_exceptions.md R241). -/
inductive FatalCode where
  | zeroMask
  | bitRange
  | dupBit
  | scanRange
  | lateReg
  deriving DecidableEq, Repr

/-- How an operation is abandoned before its end: `raise Fatal`, a stuck step, or `refuse` (R10). -/
inductive Abort where
  | fatal (code : FatalCode)
  | stuck (f : Fault)
  | refuse (r : Refusal)
  deriving DecidableEq, Repr

/-- The engine after power-up (R48, R270) with parameters `p` and `n` registry slots. -/
def State.powerUp (p : Params) (n : Nat) : State where
  params  := p
  descs   := []
  reg     := List.replicate n none
  pend    := Vector.replicate 16 0#32
  head    := none
  prev    := 0#16
  outw    := Config.outwReset
  cyc     := 0#32
  div     := 0
  skip    := p.nDiscard
  armed   := false
  halted  := false
  err     := 0#4
  scratch := Scratch.idle
  inbox   := []
  outbox  := []
  draws   := 0

/-- The engine right after reset: the board's parameters, N = 16. Logs 4, 5, 21. -/
def State.reset : State := State.powerUp Config.board Config.nSlots

end Sys2Proof.Machine
end

