-- ==== Sys2Proof/Machine/Ops.lean ====
section
/-!
DEFINITION. The named operations over the state: descriptors, registry, pending words, the ADS links, NOTIFY,
emission, `raise Fatal` and the end of an operation.
-/

namespace Sys2Proof.Machine

open Sys2Proof

/-! ### The descriptors (R24, R36) -/

/-- NDESC (R36). -/
def State.ndesc (s : State) : Nat := s.descs.length

/-- Change descriptor `h`, if it exists. -/
def State.modDesc (s : State) (h : Nat) (f : Descriptor → Descriptor) : State :=
  { s with descs := s.descs.modify h f }

/-- `D[h].raw <- v`. -/
def setRaw (h : Nat) (v : BitVec 2) (s : State) : State := s.modDesc h fun d => { d with raw := v }

/-- `D[h].debounced <- v`: a commit (R12). -/
def commit (h : Nat) (v : BitVec 2) (s : State) : State := s.modDesc h fun d => { d with debounced := v }

/-- `D[h].machine_state <- m`. -/
def setMachine (h : Nat) (m : MachineState) (s : State) : State := s.modDesc h fun d => { d with machineState := m }

/-- `D[h].countdown <- D[h].duration_opening`. -/
def loadOpening (h : Nat) (s : State) : State := s.modDesc h fun d => { d with countdown := d.durationOpening }

/-- `D[h].countdown <- D[h].duration_closing`. -/
def loadClosing (h : Nat) (s : State) : State := s.modDesc h fun d => { d with countdown := d.durationClosing }

/-- `D[h].next <- n`. -/
def setNext (h : Nat) (n : Option Nat) (s : State) : State := s.modDesc h fun d => { d with next := n }

/-! ### The registry (R35) -/

/-- N, the number of registry slots (R5 P3). -/
def State.nSlots (s : State) : Nat := s.reg.length

/-- REG[p], `none` where there is no slot p. -/
def State.slot (s : State) (p : Nat) : Option Nat := s.reg[p]?.getD none

/-- `REG[p] <- h`. -/
def State.setSlot (s : State) (p h : Nat) : State := { s with reg := s.reg.set p (some h) }

/-! ### The pending-signal words (R42) and NOTIFY (R221) -/

/-- PEND[c]. -/
def State.pendOf (s : State) (c : BitVec 4) : Word := s.pend[c.toNat]'c.isLt

/-- `PEND[c] <- v`. -/
def State.setPend (s : State) (c : BitVec 4) (v : Word) : State := { s with pend := s.pend.set c.toNat v c.isLt }

/-- NOTIFY(h) (R221): `PEND[c] <- PEND[c] or D[h].notify_value`, c the descriptor's consumer. -/
def notify (h : Nat) (s : State) : State :=
  match s.descs[h]? with
  | none => s
  | some d => s.setPend d.consumer (s.pendOf d.consumer ||| d.notifyValue)

/-! ### The Active-Debounce Set (R37, R211) -/

/-- ADS_INSERT(h) (R211): `D[h].next <- HEAD; HEAD <- h`. -/
def adsInsert (h : Nat) (s : State) : State := { setNext h s.head s with head := some h }

/-- The unlinking of TICK.EXPIRE (R214): `if prev = none then HEAD <- nxt else D[prev].next <- nxt; D[cur].next <- none`. -/
def adsUnlink (cur : Nat) (prevNode nxt : Option Nat) (s : State) : State :=
  match prevNode with
  | none => setNext cur none { s with head := nxt }
  | some p => setNext cur none (setNext p nxt s)

/-! ### Emission (R10, R91) -/

/-- What an operation emits leaves the engine. -/
def State.emit (s : State) (o : Output) : State := { s with outbox := o :: s.outbox }

/-- `emit XFER_ISSUE(OUTW)` (R126, R158). -/
def issueTransfer (s : State) : State := s.emit (.issue s.outw)

/-- `return v` (R91). -/
def respond (v : Word) (s : State) : State := s.emit (.response v)

/-! ### The halt (60_exceptions.md R241, R244) -/

/-- The code of a fatal error (R241). -/
def FatalCode.code : FatalCode → BitVec 4
  | .zeroMask => 1#4
  | .bitRange => 2#4
  | .dupBit => 3#4
  | .scanRange => 4#4
  | .lateReg => 5#4

/-- `raise Fatal(code)` (R244): HALTED and ERR, unless already halted; nothing is saved. The engine's only exception
entry; the way back is RESET alone (R248), Machine/Reset.lean. -/
def raiseFatal (code : FatalCode) (s : State) : State :=
  if s.halted then s else { s with halted := true, err := code.code }

/-- The end of an operation begun in `s`: where it was abandoned by `raise Fatal` nothing it did stands (R246), so
the state is `s` halted. Log 22. -/
def finish (s : State) : Except Abort State → Host.Outcome State Fault Refusal
  | .ok t => .next t
  | .error (.fatal code) => .next (raiseFatal code s)
  | .error (.stuck f) => .fault f
  | .error (.refuse r) => .refused r

/-- "While HALTED = 1 no step of any agent is enabled except RESET" (R74). -/
def whileRunning (s : State) (k : Host.Outcome State Fault Refusal) : Host.Outcome State Fault Refusal :=
  if s.halted then .fault .halted else k

end Sys2Proof.Machine
end

