-- ==== Sys2Proof/Machine/Consumer.lean ====
section
/-!
DEFINITION. The consumer commands SETOUT, RDDEB and TAKE (47_notification.md R225 to R227).
-/

namespace Sys2Proof.Machine

open Sys2Proof

/-- SETOUT (R227): OUTW <- w. -/
def execSetout (w : Sample) (s : State) : Host.Outcome State Fault Refusal :=
  whileRunning s (.next { s with outw := w })

/-- RDDEB (R225): return zext_32(D[h].debounced); refused where h >= NDESC. -/
def execRddeb (h : Nat) (s : State) : Host.Outcome State Fault Refusal :=
  whileRunning s <|
    match s.descs[h]? with
    | none => .refused .unknownHandle
    | some d => .next (respond (d.debounced.setWidth 32) s)

/-- TAKE (R226): return PEND[c] and clear it. Log 16. -/
def execTake (c : BitVec 4) (s : State) : Host.Outcome State Fault Refusal :=
  whileRunning s (.next (respond (s.pendOf c) (s.setPend c 0#32)))

end Sys2Proof.Machine
end

