-- ==== Sys2Proof/Machine/Reset.lean ====
section
/-!
DEFINITION. RESET (70_reset_and_hazards.md R270), the only way out of the halt (R248).
-/

namespace Sys2Proof.Machine

open Sys2Proof

/-- RESET (R270): every piece of state takes its value of R48; enabled always. The parameters and the number of slots
are constants (R44); the frames to come, what was emitted and the count of free values are not the engine's.
No descriptor exists afterwards, so D has nothing left to be unspecified. Logs 1, 3, 6. -/
def execReset (s : State) : Host.Outcome State Fault Refusal :=
  .next { State.powerUp s.params s.nSlots with inbox := s.inbox, outbox := s.outbox, draws := s.draws }

end Sys2Proof.Machine
end

