-- ==== Sys2Proof/Machine/Flags.lean ====
section
/-!
DEFINITION. The engine has no condition codes (10_state.md R23). What stands here are its status outputs, its phase,
and the one-bit conditions that the selectors of 30_encoding.md R94 test.
-/

namespace Sys2Proof.Machine

open Sys2Proof

/-! ### Status outputs and phase -/

/-- WAKE[c] = (PEND[c] != 0) (R23, R223). -/
def State.wake (s : State) (c : BitVec 4) : Bool := s.pendOf c != 0#32

/-- The three phases of R22. -/
inductive Phase where
  | unarmed
  | running
  | halt
  deriving DecidableEq, Repr

/-- The phase, a function of ARMED and HALTED (R22). -/
def State.phase (s : State) : Phase :=
  if s.halted then .halt else if s.armed then .running else .unarmed

/-- "a transfer is outstanding exactly when ARMED = 1 and HALTED = 0" (R43). -/
def State.outstanding (s : State) : Bool := s.armed && !s.halted

/-! ### Bits of the selectors (R94) -/

/-- r of PBEV and SETL: the level in `raw`, 0 closed and 1 open (R84). -/
def levelBit (d : Descriptor) : Bool := d.raw.getLsbD 0

/-- z of PBEV: the duration of the direction towards the level in `raw` is zero. -/
def zeroDurationBit (d : Descriptor) : Bool :=
  if levelBit d then d.durationOpening == 0#16 else d.durationClosing == 0#16

/-- e of PAIR: the code in `raw` equals the committed code. -/
def sameCodeBit (d : Descriptor) : Bool := d.raw == d.debounced

/-- z of TMEM: the countdown is 0 after the decrement. -/
def expiringBit (d : Descriptor) : Bool := d.countdown - 1#16 == 0#16

end Sys2Proof.Machine
end

