-- ==== Sys2Proof/Machine/Scanner.lean ====
section
/-!
DEFINITION. The Bit Scanner (40_bit_scanner.md R110 to R113).
`none` stands for the zero operand, which is outside the domain and is `raise Fatal(1)` where it is reached (R110).
-/

namespace Sys2Proof.Machine

open Sys2Proof

/-- CLZ (R110): the n with x[XLEN-1-n] = 1 and no bit set above. -/
def clz (x : Word) : Option Nat := (List.range 32).find? fun n => x.getLsbD (31 - n)

/-- BSCAN.MS (R111): XLEN - 1 - clz(x). -/
def bscanMs (x : Word) : Option Nat := (clz x).map fun n => 31 - n

/-- BSCAN.LS (R112): the least i with x[i] = 1, "the normative one" of its two definitions. -/
def bscanLs (x : Word) : Option Nat := (List.range 32).find? fun i => x.getLsbD i

/-- scan(x) (R113), in the direction SCAN_DIR. -/
def scan (dir : ScanDir) (x : Word) : Option Nat :=
  match dir with
  | .lsf => bscanLs x
  | .msf => bscanMs x

/-- The number of set bits of x (R114). -/
def popcount (x : Word) : Nat := (List.range 32).countP fun i => x.getLsbD i

end Sys2Proof.Machine
end

