-- ==== Sys2Proof/Machine/Operands.lean ====
section
/-!
DEFINITION. Operand forms: the selectors read from state and input (30_encoding.md R94), the pair code (R202), sample
bits, and the masks of REGISTER (R152, R153).
-/

namespace Sys2Proof.Machine

open Sys2Proof

/-! ### Sample bits and codes -/

/-- `rx[p]`; a sample is zero-extended above W (R6). Log 17. -/
def sampleBit (rx : Sample) (p : Nat) : Bool := rx.getLsbD p

/-- zext_2 of a level: the raw of a Pushbutton (R27, R84). -/
def levelCode (r : Bool) : BitVec 2 := if r then 1#2 else 0#2

/-- The pair code {rx[bit_secondary], rx[bit_primary]} (R202). -/
def pairCode (d : Descriptor) (rx : Sample) : BitVec 2 :=
  BitVec.ofBool (sampleBit rx d.bitSecondary.toNat) ++ BitVec.ofBool (sampleBit rx d.bitPrimary.toNat)

/-- The changed-bits word (R141), zero-extended to XLEN bits. -/
def changedWord (prev rx : Sample) : Word := (prev ^^^ rx).setWidth 32

/-- The mask with bit p set, `1 << p` (R146). -/
def bitMask (p : Nat) : Word := 1#32 <<< p

/-! ### Selectors (R94) -/

/-- DISP {o, k}: whether REG[pos] is a handle, and the kind of its descriptor (0 if there is none). -/
def dispSelector (s : State) (pos : Nat) : BitVec 2 :=
  match s.slot pos with
  | none => 0#1 ++ 0#1
  | some h =>
    match s.descs[h]? with
    | none => 1#1 ++ 0#1
    | some d => 1#1 ++ d.kind.bit

/-- PBEV {s1, s0, r, z, m}, after `raw` has been written with the new level (R171). -/
def pbSelector (d : Descriptor) : BitVec 5 :=
  d.machineState.bits ++ BitVec.ofBool (levelBit d) ++ BitVec.ofBool (zeroDurationBit d) ++ d.mode.bit

/-- SETL {s1, s0, r, m}. -/
def settleSelector (d : Descriptor) : BitVec 4 :=
  d.machineState.bits ++ BitVec.ofBool (levelBit d) ++ d.mode.bit

/-- PAIR {c1, c0, e}, after `raw` has been written with the new code (R201). -/
def pairSelector (d : Descriptor) : BitVec 3 := d.raw ++ BitVec.ofBool (sameCodeBit d)

/-- TMEM {z}. -/
def tickSelector (d : Descriptor) : BitVec 1 := BitVec.ofBool (expiringBit d)

/-! ### The masks of REGISTER -/

/-- A mask with more than one bit set. -/
def severalBits (m : Word) : Bool := 1 < popcount m

/-- `malformed(mp, ms, kind)` of R153, by name: (i) first, then (ii) and (iii). -/
def malformedMasks (mp ms : Word) (kind : Kind) : Option Refusal :=
  if kind = .pushbutton ∧ ms ≠ 0#32 then some .kindMaskMismatch
  else if severalBits mp ∨ (kind = .pair ∧ severalBits ms) then some .severalBits
  else none

end Sys2Proof.Machine
end

