-- ==== Sys2Proof/Machine/Settle.lean ====
section
/-!
DEFINITION. Settle handling (44_pushbutton_fsm.md R181 to R189).
The unlinking that follows it in the same tick is TICK.EXPIRE's (R214).
-/

namespace Sys2Proof.Machine

open Sys2Proof

/-- SETTLE.OPENING.CONFIRM.IMM (R182). -/
def settleOpeningConfirmImm (h : Nat) (s : State) : State := setMachine h .opened s

/-- SETTLE.OPENING.CONFIRM.SET (R183). -/
def settleOpeningConfirmSet (h : Nat) (s : State) : State := notify h (commit h 1#2 (setMachine h .opened s))

/-- SETTLE.OPENING.BOUNCE.IMM (R184). -/
def settleOpeningBounceImm (h : Nat) (s : State) : State := notify h (commit h 0#2 (setMachine h .closed s))

/-- SETTLE.OPENING.BOUNCE.SET (R185). -/
def settleOpeningBounceSet (h : Nat) (s : State) : State := setMachine h .closed s

/-- SETTLE.CLOSING.CONFIRM.IMM (R186). -/
def settleClosingConfirmImm (h : Nat) (s : State) : State := setMachine h .closed s

/-- SETTLE.CLOSING.CONFIRM.SET (R187). -/
def settleClosingConfirmSet (h : Nat) (s : State) : State := notify h (commit h 0#2 (setMachine h .closed s))

/-- SETTLE.CLOSING.BOUNCE.IMM (R188). -/
def settleClosingBounceImm (h : Nat) (s : State) : State := notify h (commit h 1#2 (setMachine h .opened s))

/-- SETTLE.CLOSING.BOUNCE.SET (R189). -/
def settleClosingBounceSet (h : Nat) (s : State) : State := setMachine h .opened s

/-- The transition of a SETL row (R181). -/
def runSettle : SettleRow → Nat → State → State
  | .openingConfirmImm => settleOpeningConfirmImm
  | .openingConfirmSet => settleOpeningConfirmSet
  | .openingBounceImm => settleOpeningBounceImm
  | .openingBounceSet => settleOpeningBounceSet
  | .closingConfirmImm => settleClosingConfirmImm
  | .closingConfirmSet => settleClosingConfirmSet
  | .closingBounceImm => settleClosingBounceImm
  | .closingBounceSet => settleClosingBounceSet

/-- SETTLE(h) (R181). A settled machine_state has no row (R94); R46 (e) says no member is in one. Log 15. -/
def settle (h : Nat) (s : State) : Except Abort State :=
  match s.descs[h]? with
  | none => .error (.stuck .noDescriptor)
  | some d =>
    match decodeSetl (settleSelector d) with
    | none => .error (.stuck .notSelected)
    | some row => .ok (runSettle row h s)

/-- A SETL transition on its own: it fires on descriptor `h` when the descriptor shows its selector (R94, R181).
DESIGN CHOICE: neither kind, membership nor the countdown is tested, where R181 speaks of a member whose countdown the
tick has just brought to 0. Logs 9, 23. -/
def fireSettle (row : SettleRow) (h : Nat) (effect : State → State) (s : State) : Host.Outcome State Fault Refusal :=
  whileRunning s <|
    match s.descs[h]? with
    | none => .fault .noDescriptor
    | some d =>
      if decodeSetl (settleSelector d) = some row then .next (effect s) else .fault .notSelected

def execSettleOpeningConfirmImm (h : Nat) (s : State) : Host.Outcome State Fault Refusal :=
  fireSettle .openingConfirmImm h (settleOpeningConfirmImm h) s

def execSettleOpeningConfirmSet (h : Nat) (s : State) : Host.Outcome State Fault Refusal :=
  fireSettle .openingConfirmSet h (settleOpeningConfirmSet h) s

def execSettleOpeningBounceImm (h : Nat) (s : State) : Host.Outcome State Fault Refusal :=
  fireSettle .openingBounceImm h (settleOpeningBounceImm h) s

def execSettleOpeningBounceSet (h : Nat) (s : State) : Host.Outcome State Fault Refusal :=
  fireSettle .openingBounceSet h (settleOpeningBounceSet h) s

def execSettleClosingConfirmImm (h : Nat) (s : State) : Host.Outcome State Fault Refusal :=
  fireSettle .closingConfirmImm h (settleClosingConfirmImm h) s

def execSettleClosingConfirmSet (h : Nat) (s : State) : Host.Outcome State Fault Refusal :=
  fireSettle .closingConfirmSet h (settleClosingConfirmSet h) s

def execSettleClosingBounceImm (h : Nat) (s : State) : Host.Outcome State Fault Refusal :=
  fireSettle .closingBounceImm h (settleClosingBounceImm h) s

def execSettleClosingBounceSet (h : Nat) (s : State) : Host.Outcome State Fault Refusal :=
  fireSettle .closingBounceSet h (settleClosingBounceSet h) s

end Sys2Proof.Machine
end

