-- ==== Sys2Proof/Machine/ActiveSet.lean ====
section
/-!
DEFINITION. The debounce tick over the Active-Debounce Set (46_active_set.md R212 to R214).
-/

namespace Sys2Proof.Machine

open Sys2Proof

/-- `D[h].countdown <- D[h].countdown - 1` (R213); a countdown of 0, which no member has, wraps. Log 20. -/
def decrement (h : Nat) (s : State) : State := s.modDesc h fun d => { d with countdown := d.countdown - 1#16 }

/-- TICK.HOLD(cur) (R213). -/
def tickHold (cur : Nat) (s : State) : State := decrement cur s

/-- TICK.EXPIRE(cur, prev, nxt) (R214): countdown to 0, SETTLE, unlink. `prev` is the previous-node cursor of the walk
and `nxt` is `D[cur].next`, which no settle writes. -/
def tickExpire (cur : Nat) (s : State) : Except Abort State :=
  match s.descs[cur]? with
  | none => .error (.stuck .noDescriptor)
  | some d =>
    match settle cur (s.modDesc cur fun e => { e with countdown := 0#16 }) with
    | .error a => .error a
    | .ok t => .ok (adsUnlink cur s.scratch.prevNode d.next t)

/-- Move the previous-node cursor of the walk (R212). -/
def setPrevNode (p : Option Nat) (s : State) : State := { s with scratch := { s.scratch with prevNode := p } }

/-- The walk of TICK (R212) from `cur`, through at most as many members as the first argument says. -/
def tickWalk : Nat → Option Nat → State → Except Abort State
  | _, none, s => .ok s
  | 0, some _, _ => .error (.stuck .endlessSet)
  | n + 1, some cur, s =>
    match s.descs[cur]? with
    | none => .error (.stuck .noDescriptor)
    | some d =>
      match decodeTmem (tickSelector d) with
      | .hold => tickWalk n d.next (setPrevNode (some cur) (tickHold cur s))
      | .expire =>
        match tickExpire cur s with
        | .error a => .error a
        | .ok t => tickWalk n d.next t

/-- TICK (R212): the whole set once, from HEAD; it holds at most NDESC members (R216). -/
def tick (s : State) : Except Abort State :=
  match tickWalk s.ndesc s.head (setPrevNode none s) with
  | .error a => .error a
  | .ok t => .ok (setPrevNode none t)

/-- A TMEM transition on its own: it fires on descriptor `h` when the descriptor shows its selector (R94, R212).
DESIGN CHOICE: neither kind nor membership is tested, so it also fires on a Pair or a non-member, where R213 and R214
speak of a member only; there a countdown of 0 is held and wraps to 65535. Logs 9, 20, 23. -/
def fireTick (row : TickRow) (h : Nat) (effect : State → Except Abort State) (s : State) :
    Host.Outcome State Fault Refusal :=
  whileRunning s <|
    match s.descs[h]? with
    | none => .fault .noDescriptor
    | some d => if decodeTmem (tickSelector d) = row then finish s (effect s) else .fault .notSelected

def execTickHold (h : Nat) (s : State) : Host.Outcome State Fault Refusal :=
  fireTick .hold h (fun t => .ok (tickHold h t)) s

def execTickExpire (h : Nat) (s : State) : Host.Outcome State Fault Refusal :=
  fireTick .expire h (tickExpire h) s

end Sys2Proof.Machine
end

