-- ==== Sys2Proof/Machine/PairLogic.lean ====
section
/-!
DEFINITION. The switch-pair differential logic (45_pair_logic.md R201 to R205).
-/

namespace Sys2Proof.Machine

open Sys2Proof

/-- PAIR.IGNORE00 (R203): nothing beyond the write of raw. -/
def pairIgnore00 (_h : Nat) (s : State) : State := s

/-- PAIR.IGNORE11 (R203): nothing beyond the write of raw. -/
def pairIgnore11 (_h : Nat) (s : State) : State := s

/-- PAIR.COMMIT01 (R204): `D[h].debounced <- code; NOTIFY(h)`, the code being 0b01. -/
def pairCommit01 (h : Nat) (s : State) : State := notify h (commit h 0b01#2 s)

/-- PAIR.SAME01 (R204): nothing. -/
def pairSame01 (_h : Nat) (s : State) : State := s

/-- PAIR.COMMIT10 (R204): `D[h].debounced <- code; NOTIFY(h)`, the code being 0b10. -/
def pairCommit10 (h : Nat) (s : State) : State := notify h (commit h 0b10#2 s)

/-- PAIR.SAME10 (R204): nothing. -/
def pairSame10 (_h : Nat) (s : State) : State := s

/-- The transition of a PAIR row (R201). -/
def runPair : PairRow → Nat → State → State
  | .ignore00 => pairIgnore00
  | .ignore11 => pairIgnore11
  | .commit01 => pairCommit01
  | .same01 => pairSame01
  | .commit10 => pairCommit10
  | .same10 => pairSame10

/-- PAIR_EVENT(h, rx) (R201): raw first, then the transition the selector names. -/
def pairEvent (h : Nat) (rx : Sample) (s : State) : Except Abort State :=
  match s.descs[h]? with
  | none => .error (.stuck .noDescriptor)
  | some d =>
    let e := { d with raw := pairCode d rx }
    .ok (runPair (decodePair (pairSelector e)) h (setRaw h (pairCode d rx) s))

/-- A PAIR transition on its own: it fires on descriptor `h`, a Pair, when the descriptor shows its selector, the new
code being the one in `raw` (R94, R201). Log 9. -/
def firePair (row : PairRow) (h : Nat) (effect : State → State) (s : State) : Host.Outcome State Fault Refusal :=
  whileRunning s <|
    match s.descs[h]? with
    | none => .fault .noDescriptor
    | some d =>
      if d.kind = .pair ∧ decodePair (pairSelector d) = row then .next (effect s) else .fault .notSelected

def execPairIgnore00 (h : Nat) (s : State) : Host.Outcome State Fault Refusal :=
  firePair .ignore00 h (pairIgnore00 h) s

def execPairIgnore11 (h : Nat) (s : State) : Host.Outcome State Fault Refusal :=
  firePair .ignore11 h (pairIgnore11 h) s

def execPairCommit01 (h : Nat) (s : State) : Host.Outcome State Fault Refusal :=
  firePair .commit01 h (pairCommit01 h) s

def execPairSame01 (h : Nat) (s : State) : Host.Outcome State Fault Refusal :=
  firePair .same01 h (pairSame01 h) s

def execPairCommit10 (h : Nat) (s : State) : Host.Outcome State Fault Refusal :=
  firePair .commit10 h (pairCommit10 h) s

def execPairSame10 (h : Nat) (s : State) : Host.Outcome State Fault Refusal :=
  firePair .same10 h (pairSame10 h) s

end Sys2Proof.Machine
end

