-- ==== Sys2Proof/Machine/Pushbutton.lean ====
section
/-!
DEFINITION. The raw-change events of the Debounce State Machine (44_pushbutton_fsm.md R171 to R180).
-/

namespace Sys2Proof.Machine

open Sys2Proof

/-- PB.OPEN.INSTANT (R172). -/
def pbOpenInstant (h : Nat) (s : State) : State := setMachine h .opened (notify h (commit h 1#2 s))

/-- PB.OPEN.IMM (R173). -/
def pbOpenImm (h : Nat) (s : State) : State :=
  adsInsert h (loadOpening h (setMachine h .opening (notify h (commit h 1#2 s))))

/-- PB.OPEN.SET (R174). -/
def pbOpenSet (h : Nat) (s : State) : State := adsInsert h (loadOpening h (setMachine h .opening s))

/-- PB.CLOSE.INSTANT (R175). -/
def pbCloseInstant (h : Nat) (s : State) : State := setMachine h .closed (notify h (commit h 0#2 s))

/-- PB.CLOSE.IMM (R176). -/
def pbCloseImm (h : Nat) (s : State) : State :=
  adsInsert h (loadClosing h (setMachine h .closing (notify h (commit h 0#2 s))))

/-- PB.CLOSE.SET (R177). -/
def pbCloseSet (h : Nat) (s : State) : State := adsInsert h (loadClosing h (setMachine h .closing s))

/-- PB.EXTEND.OPENING (R178). -/
def pbExtendOpening (h : Nat) (s : State) : State := loadOpening h s

/-- PB.EXTEND.CLOSING (R179). -/
def pbExtendClosing (h : Nat) (s : State) : State := loadClosing h s

/-- PB.NONE.CLOSED (R180): nothing beyond the write of raw. -/
def pbNoneClosed (_h : Nat) (s : State) : State := s

/-- PB.NONE.OPEN (R180): nothing beyond the write of raw. -/
def pbNoneOpen (_h : Nat) (s : State) : State := s

/-- The transition of a PBEV row (R171). -/
def runPb : PbRow → Nat → State → State
  | .openInstant => pbOpenInstant
  | .openImm => pbOpenImm
  | .openSet => pbOpenSet
  | .closeInstant => pbCloseInstant
  | .closeImm => pbCloseImm
  | .closeSet => pbCloseSet
  | .extendOpening => pbExtendOpening
  | .extendClosing => pbExtendClosing
  | .noneClosed => pbNoneClosed
  | .noneOpen => pbNoneOpen

/-- PB_EVENT(h, r) (R171): raw first, then the transition the selector names. -/
def pbEvent (h : Nat) (r : Bool) (s : State) : Except Abort State :=
  let t := setRaw h (levelCode r) s
  match t.descs[h]? with
  | none => .error (.stuck .noDescriptor)
  | some d => .ok (runPb (decodePbev (pbSelector d)) h t)

/-- A PBEV transition on its own: it fires on descriptor `h`, a Pushbutton, when the descriptor shows its selector, the
sample bit r being the level in `raw` (R94, R171). Log 9. -/
def firePb (row : PbRow) (h : Nat) (effect : State → State) (s : State) : Host.Outcome State Fault Refusal :=
  whileRunning s <|
    match s.descs[h]? with
    | none => .fault .noDescriptor
    | some d =>
      if d.kind = .pushbutton ∧ decodePbev (pbSelector d) = row then .next (effect s) else .fault .notSelected

def execPbOpenInstant (h : Nat) (s : State) : Host.Outcome State Fault Refusal :=
  firePb .openInstant h (pbOpenInstant h) s

def execPbOpenImm (h : Nat) (s : State) : Host.Outcome State Fault Refusal :=
  firePb .openImm h (pbOpenImm h) s

def execPbOpenSet (h : Nat) (s : State) : Host.Outcome State Fault Refusal :=
  firePb .openSet h (pbOpenSet h) s

def execPbCloseInstant (h : Nat) (s : State) : Host.Outcome State Fault Refusal :=
  firePb .closeInstant h (pbCloseInstant h) s

def execPbCloseImm (h : Nat) (s : State) : Host.Outcome State Fault Refusal :=
  firePb .closeImm h (pbCloseImm h) s

def execPbCloseSet (h : Nat) (s : State) : Host.Outcome State Fault Refusal :=
  firePb .closeSet h (pbCloseSet h) s

def execPbExtendOpening (h : Nat) (s : State) : Host.Outcome State Fault Refusal :=
  firePb .extendOpening h (pbExtendOpening h) s

def execPbExtendClosing (h : Nat) (s : State) : Host.Outcome State Fault Refusal :=
  firePb .extendClosing h (pbExtendClosing h) s

def execPbNoneClosed (h : Nat) (s : State) : Host.Outcome State Fault Refusal :=
  firePb .noneClosed h (pbNoneClosed h) s

def execPbNoneOpen (h : Nat) (s : State) : Host.Outcome State Fault Refusal :=
  firePb .noneOpen h (pbNoneOpen h) s

end Sys2Proof.Machine
end

