-- ==== Sys2Proof/Machine/Dispatching.lean ====
section
/-!
DEFINITION. The Change Detector and the dispatch loop (42_change_detector.md R141 to R146).
The working copy and the sample of the cycle stand in `scratch` (R43, log 8).
-/

namespace Sys2Proof.Machine

open Sys2Proof

/-- `work <- work and not_XLEN(mask)`. -/
def clearWork (mask : Word) (s : State) : State :=
  { s with scratch := { s.scratch with work := s.scratch.work &&& ~~~mask } }

/-- DISP.NONE(pos) (R144): the bit is cleared from the working copy and skipped. -/
def runDispNone (pos : Nat) (s : State) : Except Abort State := .ok (clearWork (bitMask pos) s)

/-- DISP.PB(pos, h) (R145), h = REG[pos]. -/
def runDispPb (pos : Nat) (s : State) : Except Abort State :=
  match s.slot pos with
  | none => .error (.stuck .noDescriptor)
  | some h => pbEvent h (sampleBit s.scratch.rx pos) (clearWork (bitMask pos) s)

/-- DISP.PAIR(h) (R146), h = REG[pos]: both positions are cleared in the one pass. -/
def runDispPair (pos : Nat) (s : State) : Except Abort State :=
  match s.slot pos with
  | none => .error (.stuck .noDescriptor)
  | some h =>
    match s.descs[h]? with
    | none => .error (.stuck .noDescriptor)
    | some d =>
      pairEvent h s.scratch.rx (clearWork (bitMask d.bitPrimary.toNat ||| bitMask d.bitSecondary.toNat) s)

/-- The transition of a DISP row (R142). -/
def runDisp : DispRow → Nat → State → Except Abort State
  | .none => runDispNone
  | .pb => runDispPb
  | .pair => runDispPair

/-- One pass of DISPATCH for the scanned position (R142, R143). -/
def dispatchAt (pos : Nat) (s : State) : Except Abort State :=
  if s.nSlots ≤ pos then .error (.fatal .scanRange) else runDisp (decodeDisp (dispSelector s pos)) pos s

/-- DISPATCH (R142), through at most as many passes as the first argument says. -/
def dispatchLoop : Nat → ScanDir → State → Except Abort State
  | 0, dir, s =>
    match scan dir s.scratch.work with
    | none => .ok s
    | some _ => .error (.stuck .scanUnfinished)
  | n + 1, dir, s =>
    match scan dir s.scratch.work with
    | none => .ok s
    | some pos =>
      match dispatchAt pos s with
      | .error a => .error a
      | .ok t => dispatchLoop n dir t

/-- The state after at most `n` passes of the loop, or before the pass that is abandoned (R246). -/
def dispatchPrefix : Nat → ScanDir → State → State
  | 0, _, s => s
  | n + 1, dir, s =>
    match scan dir s.scratch.work with
    | none => s
    | some pos =>
      match dispatchAt pos s with
      | .error _ => s
      | .ok t => dispatchPrefix n dir t

/-- The scratch at the start of a compared cycle: `work <- changed`, the sample at hand (R123, R142). -/
def beginScan (rx : Sample) (s : State) : State :=
  { s with scratch := { work := changedWord s.prev rx, rx := rx, prevNode := none } }

/-- The scratch after the loop. -/
def endScan (s : State) : State := { s with scratch := Scratch.idle }

/-- SCAN(rx) (R123): dispatch the changed bits, if any, then `PREV <- rx`. XLEN passes are enough (R142). -/
def scanSample (rx : Sample) (s : State) : Except Abort State :=
  match dispatchLoop 32 s.params.scanDir (beginScan rx s) with
  | .error a => .error a
  | .ok t => .ok { endScan t with prev := rx }

/-- What Fatal(4) leaves, before HALTED and ERR (R246, U8): D, HEAD and PEND as some prefix of the loop leaves them, in
one or the other direction, and PREV any value; everything else as before the step. A free value (log 7). -/
def scanRangeResidue (rx : Sample) (s : State) : State :=
  let d := Config.haltDraw s.draws
  let t := dispatchPrefix d.passes d.dir (beginScan rx s)
  { endScan t with prev := d.prev, draws := s.draws + 1 }

/-- A DISP transition on its own: it fires at a slot that shows its selector (R94). Log 9. -/
def fireDisp (row : DispRow) (pos : Nat) (effect : State → Except Abort State) (s : State) :
    Host.Outcome State Fault Refusal :=
  whileRunning s <|
    if pos < s.nSlots ∧ decodeDisp (dispSelector s pos) = row then finish s (effect s) else .fault .notSelected

def execDispNone (pos : Nat) (s : State) : Host.Outcome State Fault Refusal :=
  fireDisp .none pos (runDispNone pos) s

def execDispPb (pos : Nat) (s : State) : Host.Outcome State Fault Refusal :=
  fireDisp .pb pos (runDispPb pos) s

def execDispPair (pos : Nat) (s : State) : Host.Outcome State Fault Refusal :=
  fireDisp .pair pos (runDispPair pos) s

end Sys2Proof.Machine
end

