-- ==== Sys2Proof/Machine/ScanCycle.lean ====
section
/-!
DEFINITION. The Scan Cycle Driver: XFER_DONE (41_scan_cycle.md R121 to R126).
-/

namespace Sys2Proof.Machine

open Sys2Proof

/-- DISCARD (R122): `SKIP <- SKIP - 1`, nothing else. -/
def discard (s : State) : State := { s with skip := s.skip - 1 }

/-- Step (a) (R121): a start-up cycle is discarded, any other is compared. -/
def sampleStep (rx : Sample) (s : State) : Except Abort State :=
  if 0 < s.skip then .ok (discard s) else scanSample rx s

/-- COUNT, step (b) (R124): the cycle counter, the divider and, every K cycles, the tick. -/
def countStep (s : State) : Except Abort State :=
  let t := { s with cyc := s.cyc + 1#32 }
  if s.div + 1 = s.params.k then tick { t with div := 0 } else .ok { t with div := s.div + 1 }

/-- Steps (a), (b), (c) of R121, in that order. -/
def cycleSteps (rx : Sample) (s : State) : Except Abort State :=
  match sampleStep rx s with
  | .error a => .error a
  | .ok t =>
    match countStep t with
    | .error a => .error a
    | .ok u => .ok (issueTransfer u)

/-- XFER_DONE(rx) (R121): enabled while a transfer is outstanding (R74). Fatal(4) abandons the cycle before steps (b)
and (c) and leaves what R246 says. -/
def execXferDone (rx : Sample) (s : State) : Host.Outcome State Fault Refusal :=
  whileRunning s <|
    if s.armed then
      match cycleSteps rx s with
      | .error (.fatal code) => .next (raiseFatal code (scanRangeResidue rx s))
      | r => finish s r
    else .fault .noTransfer

end Sys2Proof.Machine
end

