-- ==== Sys2Proof/Machine/Setup.lean ====
section
/-!
DEFINITION. The setup commands REGISTER and START (43_registration.md R150 to R158).
-/

namespace Sys2Proof.Machine

open Sys2Proof

/-- The position a mask names, or Fatal(1) for a zero mask (R110, R152). -/
def maskPosition (dir : ScanDir) (m : Word) : Except Abort Nat :=
  match scan dir m with
  | none => .error (.fatal .zeroMask)
  | some p => .ok p

/-- The position of the secondary mask: computed for a Pair only (R152). -/
def secondaryPosition (dir : ScanDir) (kind : Kind) (ms : Word) : Except Abort (Option Nat) :=
  match kind with
  | .pushbutton => .ok none
  | .pair =>
    match maskPosition dir ms with
    | .error a => .error a
    | .ok p => .ok (some p)

/-- Step 4 of R150: a position at or beyond N. -/
def outOfRange (s : State) (bp : Nat) (bs : Option Nat) : Bool :=
  s.nSlots ≤ bp ||
    match bs with
    | none => false
    | some p => s.nSlots ≤ p

/-- Step 5 of R150: an occupied slot, or a Pair's two positions equal. -/
def doubled (s : State) (bp : Nat) (bs : Option Nat) : Bool :=
  (s.slot bp).isSome ||
    match bs with
    | none => false
    | some p => p == bp || (s.slot p).isSome

/-- The descriptor of step 6 (R155): all fields zero, `next` none, but for those REGISTER fills. -/
def newDescriptor (consumer : BitVec 4) (nv : Word) (bp : Nat) (bs : Option Nat) (kind : Kind) (mode : Mode)
    (dc dop : Ticks) : Descriptor where
  kind            := kind
  bitPrimary      := BitVec.ofNat 5 bp
  bitSecondary    := BitVec.ofNat 5 (bs.getD 0)
  raw             := 0#2
  debounced       := 0#2
  machineState    := .closed
  mode            := mode
  durationClosing := dc
  durationOpening := dop
  countdown       := 0#16
  consumer        := consumer
  notifyValue     := nv
  next            := none

/-- Step 6 of R150 (R155): allocate the next handle, fill its descriptor, take its slots. -/
def allocate (d : Descriptor) (bp : Nat) (bs : Option Nat) (s : State) : State :=
  let t := { s with descs := s.descs ++ [d] }.setSlot bp s.ndesc
  match bs with
  | none => t
  | some p => t.setSlot p s.ndesc

/-- Step 3 of R150: a zero primary mask, or a zero secondary mask for a Pair. -/
def zeroMasked (mp ms : Word) (kind : Kind) : Bool :=
  mp == 0#32 || (kind == .pair && ms == 0#32)

/-- The checks and writes of R150, in its order; it writes nothing before step 6. -/
def registerSteps (consumer : BitVec 4) (nv mp ms : Word) (kind : Kind) (mode : Mode) (dc dop : Ticks) (s : State) :
    Except Abort State :=
  match malformedMasks mp ms kind with
  | some r => .error (.refuse r)
  | none =>
    if s.armed ∧ s.params.lateReg = .fatal then .error (.fatal .lateReg)
    else if zeroMasked mp ms kind then .error (.fatal .zeroMask)
    else
      match maskPosition s.params.scanDir mp with
      | .error a => .error a
      | .ok bp =>
        match secondaryPosition s.params.scanDir kind ms with
        | .error a => .error a
        | .ok bs =>
          if outOfRange s bp bs then .error (.fatal .bitRange)
          else if doubled s bp bs then .error (.fatal .dupBit)
          else .ok (respond (BitVec.ofNat 32 s.ndesc)
            (allocate (newDescriptor consumer nv bp bs kind mode dc dop) bp bs s))

/-- REGISTER (R150). -/
def execRegister (consumer : BitVec 4) (nv mp ms : Word) (kind : Kind) (mode : Mode) (dc dop : Ticks) (s : State) :
    Host.Outcome State Fault Refusal :=
  whileRunning s (finish s (registerSteps consumer nv mp ms kind mode dc dop s))

/-- START (R158): ARMED <- 1 and the first transfer; refused once armed. -/
def execStart (s : State) : Host.Outcome State Fault Refusal :=
  whileRunning s <|
    if s.armed then .refused .secondStart else .next (issueTransfer { s with armed := true })

end Sys2Proof.Machine
end

