-- ==== Sys2Proof/Machine/Dispatch.lean ====
section
/-!
DEFINITION. One arm per operation of 30_encoding.md R80, each a call of its meaning.
-/

namespace Sys2Proof.Machine

open Sys2Proof

def exec (i : Instr) (s : State) : Host.Outcome State Fault Refusal :=
  match i with
  | .reset => Sys2Proof.Machine.execReset s
  | .register c nv mp ms kind mode dc dop => Sys2Proof.Machine.execRegister c nv mp ms kind mode dc dop s
  | .start => Sys2Proof.Machine.execStart s
  | .setout w => Sys2Proof.Machine.execSetout w s
  | .rddeb h => Sys2Proof.Machine.execRddeb h s
  | .take c => Sys2Proof.Machine.execTake c s
  | .xferDone rx => Sys2Proof.Machine.execXferDone rx s
  | .dispNone pos => Sys2Proof.Machine.execDispNone pos s
  | .dispPb pos => Sys2Proof.Machine.execDispPb pos s
  | .dispPair pos => Sys2Proof.Machine.execDispPair pos s
  | .pbOpenInstant h => Sys2Proof.Machine.execPbOpenInstant h s
  | .pbOpenImm h => Sys2Proof.Machine.execPbOpenImm h s
  | .pbOpenSet h => Sys2Proof.Machine.execPbOpenSet h s
  | .pbCloseInstant h => Sys2Proof.Machine.execPbCloseInstant h s
  | .pbCloseImm h => Sys2Proof.Machine.execPbCloseImm h s
  | .pbCloseSet h => Sys2Proof.Machine.execPbCloseSet h s
  | .pbExtendOpening h => Sys2Proof.Machine.execPbExtendOpening h s
  | .pbExtendClosing h => Sys2Proof.Machine.execPbExtendClosing h s
  | .pbNoneClosed h => Sys2Proof.Machine.execPbNoneClosed h s
  | .pbNoneOpen h => Sys2Proof.Machine.execPbNoneOpen h s
  | .settleOpeningConfirmImm h => Sys2Proof.Machine.execSettleOpeningConfirmImm h s
  | .settleOpeningConfirmSet h => Sys2Proof.Machine.execSettleOpeningConfirmSet h s
  | .settleOpeningBounceImm h => Sys2Proof.Machine.execSettleOpeningBounceImm h s
  | .settleOpeningBounceSet h => Sys2Proof.Machine.execSettleOpeningBounceSet h s
  | .settleClosingConfirmImm h => Sys2Proof.Machine.execSettleClosingConfirmImm h s
  | .settleClosingConfirmSet h => Sys2Proof.Machine.execSettleClosingConfirmSet h s
  | .settleClosingBounceImm h => Sys2Proof.Machine.execSettleClosingBounceImm h s
  | .settleClosingBounceSet h => Sys2Proof.Machine.execSettleClosingBounceSet h s
  | .pairIgnore00 h => Sys2Proof.Machine.execPairIgnore00 h s
  | .pairIgnore11 h => Sys2Proof.Machine.execPairIgnore11 h s
  | .pairCommit01 h => Sys2Proof.Machine.execPairCommit01 h s
  | .pairSame01 h => Sys2Proof.Machine.execPairSame01 h s
  | .pairCommit10 h => Sys2Proof.Machine.execPairCommit10 h s
  | .pairSame10 h => Sys2Proof.Machine.execPairSame10 h s
  | .tickHold h => Sys2Proof.Machine.execTickHold h s
  | .tickExpire h => Sys2Proof.Machine.execTickExpire h s

end Sys2Proof.Machine
end

