-- ==== Sys2Proof/Machine/Step.lean ====
section
/-!
DEFINITION. One step: the next frame of the agents, decoded and run (20_memory.md R66).
-/

namespace Sys2Proof.Machine

open Sys2Proof

/-- The engine has no program and no fetch (R21): a step takes the next frame an agent sends from `inbox`, runs the
operation it encodes, and refuses a frame that encodes none (R93). With no frame it is "simply idle" (R258). Logs 1, 2. -/
def step (s : State) : Host.Outcome State Fault Refusal :=
  match s.inbox with
  | [] => .next s
  | f :: rest =>
    match decode f with
    | .error r => .refused (.malformedFrame r)
    | .ok i => exec i { s with inbox := rest }

/-- `s` with the instruction of a table row's bits as the next frame (log 13). -/
def State.withFetchWord (s : State) (nbits w : Nat) : State :=
  { s with inbox := tableFrame nbits w :: s.inbox }

end Sys2Proof.Machine
end

