-- ==== Sys2Proof/Safety.lean ====
section
/-!
DEFINITION. What counts as a good state and a safe step, in the terms the statements use: the invariants of
10_state.md R45 and R46, the registry invariant, and the parts of a state a host can see.
-/

namespace Sys2Proof.Machine

open Sys2Proof

/-! ### Descriptors -/

/-- `D[h]` occupies the position p: its primary one, or for a Pair its secondary one (R46 (g)). -/
def Descriptor.Owns (d : Descriptor) (p : Nat) : Prop :=
  p = d.bitPrimary.toNat ∨ d.kind = .pair ∧ p = d.bitSecondary.toNat

/-- A Pushbutton in state Opening or Closing: by R46 (e) exactly a member of the Active-Debounce Set. -/
def Descriptor.Timing (d : Descriptor) : Prop :=
  d.kind = .pushbutton ∧ (d.machineState = .opening ∨ d.machineState = .closing)

/-- "as REGISTER left it" (R46 (h)): the dynamic fields of R155. -/
def Descriptor.Fresh (d : Descriptor) : Prop :=
  d.raw = 0#2 ∧ d.debounced = 0#2 ∧ d.machineState = .closed ∧ d.countdown = 0#16 ∧ d.next = none

/-- The configuration of a descriptor: what REGISTER writes once (R47), and nothing else of it. -/
def Descriptor.config (d : Descriptor) : Descriptor :=
  { d with raw := 0#2, debounced := 0#2, machineState := .closed, countdown := 0#16, next := none }

/-- R46 (c), (d), (f) for one descriptor, and the ranges of R24 and R29. -/
structure Descriptor.Sound (d : Descriptor) : Prop where
  /-- (c) -/
  closed : d.kind = .pushbutton → d.machineState = .closed → d.debounced = 0#2
  /-- (c) -/
  opened : d.kind = .pushbutton → d.machineState = .opened → d.debounced = 1#2
  /-- (d) -/
  opening : d.kind = .pushbutton → d.machineState = .opening →
    d.durationOpening ≠ 0#16 ∧ 1#16 ≤ d.countdown ∧ d.countdown ≤ d.durationOpening ∧
    d.debounced = (if d.mode = .immediate then 1#2 else 0#2)
  /-- (d) -/
  closing : d.kind = .pushbutton → d.machineState = .closing →
    d.durationClosing ≠ 0#16 ∧ 1#16 ≤ d.countdown ∧ d.countdown ≤ d.durationClosing ∧
    d.debounced = (if d.mode = .immediate then 0#2 else 1#2)
  /-- (f) -/
  pairCode : d.kind = .pair → d.debounced ≠ 0b11#2
  /-- R29: for a Pair the field stays at its zero-initialised value. -/
  pairState : d.kind = .pair → d.machineState = .closed
  /-- R27, R84: the raw of a Pushbutton is 0 or 1. -/
  level : d.kind = .pushbutton → d.raw = 0#2 ∨ d.raw = 1#2

/-- R46 (a): raw is the level, or the code, of the latest compared sample. -/
def Descriptor.TracksSample (d : Descriptor) (prev : Sample) : Prop :=
  match d.kind with
  | .pushbutton => d.raw = levelCode (sampleBit prev d.bitPrimary.toNat)
  | .pair => d.raw = pairCode d prev

/-- R46 (b): in a settled state raw is the state's level. -/
def Descriptor.AgreesSettled (d : Descriptor) : Prop :=
  d.kind = .pushbutton →
    (d.machineState = .closed → d.raw = 0#2) ∧ (d.machineState = .opened → d.raw = 1#2)

/-! ### The Active-Debounce Set -/

/-- Following `next` from `start` gives the handles of the list and ends (R37). -/
def Linked (descs : List Descriptor) : Option Nat → List Nat → Prop
  | start, [] => start = none
  | start, h :: rest => start = some h ∧ ∃ d, descs[h]? = some d ∧ Linked descs d.next rest

/-- `l` is the Active-Debounce Set in list order: "finite and without repetition" (R37). -/
def State.IsAds (s : State) (l : List Nat) : Prop := Linked s.descs s.head l ∧ l.Nodup

/-! ### The invariants -/

/-- The registry invariant (R45 (1), R46 (g), R24, R26), with N at most XLEN (R6). -/
structure State.RegistryInv (s : State) : Prop where
  slots_le : s.nSlots ≤ 32
  owner : ∀ (p h : Nat), s.slot p = some h ↔ ∃ d : Descriptor, s.descs[h]? = some d ∧ d.Owns p
  in_range : ∀ (h : Nat) (d : Descriptor) (p : Nat), s.descs[h]? = some d → d.Owns p → p < s.nSlots
  distinct : ∀ (h : Nat) (d : Descriptor), s.descs[h]? = some d → d.kind = .pair → d.bitPrimary ≠ d.bitSecondary
  secondary : ∀ (h : Nat) (d : Descriptor), s.descs[h]? = some d → d.kind = .pushbutton → d.bitSecondary = 0#5

/-- What holds at every boundary between steps while HALTED = 0 (R45, R46). -/
structure State.RunningInv (s : State) : Prop where
  registry : s.RegistryInv
  sound : ∀ (h : Nat) (d : Descriptor), s.descs[h]? = some d → d.Sound
  /-- (e), R37 and R34. -/
  ads : ∃ l, s.IsAds l ∧ ∀ (h : Nat) (d : Descriptor), s.descs[h]? = some d → (h ∈ l ↔ d.Timing)
  unlinked : ∀ (h : Nat) (d : Descriptor), s.descs[h]? = some d → ¬ d.Timing → d.next = none
  /-- R40. -/
  div_lt : s.div < s.params.k
  /-- R41. -/
  skip_le : s.skip ≤ s.params.nDiscard
  /-- (h) -/
  discarding : 0 < s.skip → s.prev = 0#16 ∧ ∀ (h : Nat) (d : Descriptor), s.descs[h]? = some d → d.Fresh
  /-- R48, R158: before START nothing has been scanned. -/
  unarmed : s.armed = false → s.prev = 0#16 ∧ ∀ (h : Nat) (d : Descriptor), s.descs[h]? = some d → d.Fresh
  /-- (a), (b), which need LATE_REG = FATAL. -/
  tracks : s.params.lateReg = .fatal → ∀ (h : Nat) (d : Descriptor), s.descs[h]? = some d → d.TracksSample s.prev ∧ d.AgreesSettled

/-- HALTED and ERR (R22, R241): ERR is 0 while HALTED = 0, and a code 1 .. 5 once HALTED = 1. -/
def State.PhaseInv (s : State) : Prop :=
  (s.halted = false → s.err = 0#4) ∧ (s.halted = true → 1#4 ≤ s.err ∧ s.err ≤ 5#4)

/-- The invariant of the engine at a boundary between steps, with only agents' frames to come (R81). -/
structure State.Inv (s : State) : Prop where
  phase : s.PhaseInv
  /-- R43: nothing of a step's working storage survives it. -/
  idle : s.scratch = Scratch.idle
  agents : ∀ f ∈ s.inbox, f.fromAgent = true
  running : s.halted = false → s.RunningInv

/-! ### What a scan cycle does -/

/-- A descriptor but for its link: what does not depend on the order of the set (R215). -/
def Descriptor.apartFromLink (d : Descriptor) : Descriptor := { d with next := none }

/-- What one tick makes of a descriptor `a` (R212 to R214): a descriptor not timing stands but for its link; a member is
decremented, or settled to the level of its raw and unlinked. -/
structure Descriptor.Ticked (a b : Descriptor) : Prop where
  stands  : ¬ a.Timing → b.apartFromLink = a.apartFromLink
  held    : a.Timing → a.countdown ≠ 1#16 →
    b.apartFromLink = { a with countdown := a.countdown - 1#16, next := none }
  expired : a.Timing → a.countdown = 1#16 → b = { a with
    countdown := 0#16, machineState := if a.raw.getLsbD 0 then .opened else .closed,
    debounced := if a.raw.getLsbD 0 then 1#2 else 0#2, next := none }

/-- From `s` to `t` a bit of a pending word is set exactly where it was set or it is one of the notify_value of a
descriptor of that consumer whose debounced changed (R221: NOTIFY is called by the commits "and by nothing else"). -/
def State.NotifiedExactly (s t : State) : Prop :=
  ∀ (c : BitVec 4) (p : Nat), (t.pendOf c).getLsbD p = true ↔
    (s.pendOf c).getLsbD p = true ∨ ∃ (h : Nat) (d e : Descriptor), s.descs[h]? = some d ∧ t.descs[h]? = some e ∧
      e.debounced ≠ d.debounced ∧ d.consumer = c ∧ d.notifyValue.getLsbD p = true

/-! ### Operands and steps -/

/-- A mask with at most one bit set: not malformed by R153 (ii), (iii). -/
def AtMostOneBit (m : Word) : Prop := ∀ i j : Nat, m.getLsbD i = true → m.getLsbD j = true → i = j

/-- The operation answers a next state. -/
def Completes (o : Host.Outcome State Fault Refusal) : Prop := ∃ t, o = .next t

/-- Everything of a state that does not depend on the order of the Active-Debounce Set (R215): all but HEAD, the links,
and SCAN_DIR itself. -/
def State.SameButOrder (s t : State) : Prop :=
  s.descs.map Descriptor.apartFromLink = t.descs.map Descriptor.apartFromLink ∧
  s.reg = t.reg ∧ s.pend = t.pend ∧ s.prev = t.prev ∧ s.outw = t.outw ∧ s.cyc = t.cyc ∧ s.div = t.div ∧
  s.skip = t.skip ∧ s.armed = t.armed ∧ s.halted = t.halted ∧ s.err = t.err ∧ s.outbox = t.outbox

end Sys2Proof.Machine
end

