-- ==== Sys2Proof/Certificates/Slice0/Obligations.lean ====
section
/-!
DEFINITION. The statements for the provers. Each says which rule of the spec it formalises.
`h` is a handle, `d` the descriptor it names, `s` any state, reached or not.
-/

open Sys2Proof Sys2Proof.Machine

/-! ### Encoding (30_encoding.md) -/

/-- R80 to R94: no bit of an operand is lost between the encoder and the decoder. -/
def Obligations.DecodeEncodeAgree : Prop :=
  ∀ i : Instr, i.WellFormed = true → decode (encode i) = .ok i

/-- R81, R86, R94: what the decoder gives fits the fields it was read from and is of the frame's format. -/
def Obligations.DecodedIsWellFormed : Prop :=
  ∀ (f : Frame) (i : Instr), decode f = .ok i → i.WellFormed = true ∧ i.format = f.format

/-- R88, R89, R93: a packet the decoder accepts is the encoding of what it decodes to: no bit is ignored. -/
def Obligations.AcceptedPacketIsItsEncoding : Prop :=
  ∀ (ws : List Word) (i : Instr), decode (.cmd ws) = .ok i → encode i = .cmd ws

/-- R92: no header word selects two rows of the opcode map. -/
def Obligations.HeaderSelectsOneRow : Prop :=
  ∀ (w : Word) (r q : CmdRow), r ∈ cmdRows → q ∈ cmdRows → w &&& r.mask = r.value → w &&& q.mask = q.value → r = q

/-- R93: in a running engine a header no row of R92 selects, a SETOUT word with a bit at or above W and a RDDEB of a
handle at or beyond NDESC are refused. -/
def Obligations.MalformedPacketIsRefused : Prop :=
  ∀ (s : State) (w : Word) (ws : List Word) (rest : List Frame), s.inbox = .cmd (w :: ws) :: rest → s.halted = false →
    ((∀ r ∈ cmdRows, w &&& r.mask ≠ r.value) →
      step s = .refused (.malformedFrame (if 1 ≤ headerOp w ∧ headerOp w ≤ 5 then .reservedBits else .reservedOp))) ∧
    (w = 0x30000000#32 → (∃ v, ws = [v] ∧ ∃ p, 16 ≤ p ∧ v.getLsbD p = true) →
      step s = .refused (.malformedFrame .outputWordTooWide)) ∧
    (∀ h : BitVec 8, w = 0x40#8 ++ 0#16 ++ h → ws = [] → s.ndesc ≤ h.toNat → step s = .refused .unknownHandle)

/-- R84 to R94, 95_test_vectors.md L2.4: words written out from the spec decode to the operations they stand for. -/
def Obligations.WordsOfTheSpecDecode : Prop :=
  decode (.cmd [0x1F030000#32, 1#32, 8#32, 16#32, 0x00030001#32]) =
      .ok (.register 15#4 1#32 8#32 16#32 .pair .settled 1#16 3#16) ∧
  decode (.cmd [0x20000000#32]) = .ok .start ∧
  decode (.cmd [0x30000000#32, 0x0000FFFF#32]) = .ok (.setout 0xFFFF#16) ∧
  decode (.cmd [0x40000002#32]) = .ok (.rddeb 2) ∧
  decode (.cmd [0x5A000000#32]) = .ok (.take 10#4) ∧
  decode (.pbev 0b01001#5 3#8) = .ok (.pbCloseSet 3) ∧
  decode (.setl 0b1100#4 3#8) = .ok (.settleOpeningBounceImm 3) ∧
  decode (.pair 0b011#3 2#8) = .ok (.pairSame01 2)

/-! ### Steps (20_memory.md) -/

/-- R66, R258: a step runs the operation its frame decodes to, in the state without that frame; without a frame the
engine is idle. -/
def Obligations.StepRunsDecodedInstruction : Prop :=
  (∀ (s : State) (f : Frame) (rest : List Frame) (i : Instr), s.inbox = f :: rest → decode f = .ok i →
    step s = exec i { s with inbox := rest }) ∧
  ∀ s : State, s.inbox = [] → step s = .next s

/-- R74, R254, U13: in HALT nothing but RESET is enabled, and XFER_DONE is not while UNARMED. -/
def Obligations.NothingButResetInHalt : Prop :=
  (∀ (s : State) (i : Instr), s.halted = true → i ≠ .reset → exec i s = .fault .halted) ∧
  ∀ (s : State) (rx : Sample), s.halted = false → s.armed = false → exec (.xferDone rx) s = .fault .noTransfer

/-- R270, R48: RESET is enabled in every state and gives every piece of state its reset value; an outstanding transfer
is abandoned. -/
def Obligations.ResetGivesResetValues : Prop :=
  ∀ s : State, ∃ t, exec .reset s = .next t ∧
    t.armed = false ∧ t.halted = false ∧ t.err = 0#4 ∧ t.ndesc = 0 ∧ t.cyc = 0#32 ∧ t.div = 0 ∧
    (∀ p, t.slot p = none) ∧ t.head = none ∧ t.prev = 0#16 ∧ t.outw = 0#16 ∧
    t.skip = s.params.nDiscard ∧ (∀ c, t.pendOf c = 0#32) ∧ t.outstanding = false

/-- What RESET keeps, the model's choice (logs 1, 3, 4, 7, 8): the parameters and N, the frames to come, what was
emitted and the count of free values; the scratch is idle. -/
def Obligations.ResetKeepsTheHostsSide : Prop :=
  ∀ s t : State, exec .reset s = .next t →
    t.params = s.params ∧ t.nSlots = s.nSlots ∧ t.inbox = s.inbox ∧ t.outbox = s.outbox ∧ t.draws = s.draws ∧
    t.scratch = Scratch.idle

/-! ### REGISTER and START (43_registration.md) -/

/-- R152, R155: a Pushbutton registered on a free slot, and a Pair on two: the next handle is allocated, its
configuration filled and every other field zero, the slots taken and the handle returned; nothing else changes. -/
def Obligations.RegisterAllocates : Prop :=
  ∀ (s : State) (c : BitVec 4) (nv : Word) (p q : Nat) (mode : Mode) (dc dop : Ticks),
    s.halted = false → (s.armed = false ∨ s.params.lateReg = .allow) → p < 32 → q < 32 → s.reg[p]? = some none →
    exec (.register c nv (1#32 <<< p) 0#32 .pushbutton mode dc dop) s = .next { s with
      descs := s.descs ++ [{
        kind := .pushbutton, bitPrimary := BitVec.ofNat 5 p, bitSecondary := 0#5, raw := 0#2,
        debounced := 0#2, machineState := .closed, mode := mode, durationClosing := dc, durationOpening := dop,
        countdown := 0#16, consumer := c, notifyValue := nv, next := none }],
      reg := s.reg.set p (some s.descs.length),
      outbox := .response (BitVec.ofNat 32 s.descs.length) :: s.outbox } ∧
    (p ≠ q → s.reg[q]? = some none →
      exec (.register c nv (1#32 <<< p) (1#32 <<< q) .pair mode dc dop) s = .next { s with
        descs := s.descs ++ [{
          kind := .pair, bitPrimary := BitVec.ofNat 5 p, bitSecondary := BitVec.ofNat 5 q, raw := 0#2,
          debounced := 0#2, machineState := .closed, mode := mode, durationClosing := dc, durationOpening := dop,
          countdown := 0#16, consumer := c, notifyValue := nv, next := none }],
        reg := (s.reg.set p (some s.descs.length)).set q (some s.descs.length),
        outbox := .response (BitVec.ofNat 32 s.descs.length) :: s.outbox })

/-- R153: masks of several bits, and a secondary mask for a Pushbutton, are refused; a zero mask, else well-formed,
halts with code 1 and writes nothing else. -/
def Obligations.MasksAreChecked : Prop :=
  ∀ (s : State) (c : BitVec 4) (nv mp ms : Word) (kind : Kind) (mode : Mode) (dc dop : Ticks), s.halted = false →
    (kind = .pushbutton ∧ ms ≠ 0#32 ∨ ¬ AtMostOneBit mp ∨ kind = .pair ∧ ¬ AtMostOneBit ms →
      ∃ r, exec (.register c nv mp ms kind mode dc dop) s = .refused r) ∧
    ((kind = .pushbutton → ms = 0#32) → AtMostOneBit mp → AtMostOneBit ms →
      (s.armed = false ∨ s.params.lateReg = .allow) → (mp = 0#32 ∨ kind = .pair ∧ ms = 0#32) →
      exec (.register c nv mp ms kind mode dc dop) s = .next { s with halted := true, err := 1#4 })

/-- R151: once armed, with LATE_REG = FATAL a well-formed REGISTER halts with code 5 and writes nothing else, and with
LATE_REG = ALLOW REGISTER proceeds exactly as when unarmed. -/
def Obligations.LateRegistration : Prop :=
  ∀ (s : State) (c : BitVec 4) (nv mp ms : Word) (kind : Kind) (mode : Mode) (dc dop : Ticks), s.halted = false →
    s.armed = true →
    (s.params.lateReg = .fatal → (kind = .pushbutton → ms = 0#32) → AtMostOneBit mp → AtMostOneBit ms →
      exec (.register c nv mp ms kind mode dc dop) s = .next { s with halted := true, err := 5#4 }) ∧
    (s.params.lateReg = .allow → exec (.register c nv mp ms kind mode dc dop) s =
      match exec (.register c nv mp ms kind mode dc dop) { s with armed := false } with
      | .next t => .next { t with armed := true }
      | .fault f => .fault f
      | .refused r => .refused r)

/-- R154: a position at or beyond N halts with code 2; an occupied slot, and a Pair's two positions equal, with code 3.
Nothing else is written. -/
def Obligations.RangeAndOccupancyAreChecked : Prop :=
  ∀ (s : State) (c : BitVec 4) (nv : Word) (p q : Nat) (mode : Mode) (dc dop : Ticks), s.halted = false →
    (s.armed = false ∨ s.params.lateReg = .allow) → p < 32 → q < 32 →
    (s.nSlots ≤ p → exec (.register c nv (1#32 <<< p) 0#32 .pushbutton mode dc dop) s =
      .next { s with halted := true, err := 2#4 }) ∧
    (s.nSlots ≤ p ∨ s.nSlots ≤ q → exec (.register c nv (1#32 <<< p) (1#32 <<< q) .pair mode dc dop) s =
      .next { s with halted := true, err := 2#4 }) ∧
    (p < s.nSlots → s.slot p ≠ none → exec (.register c nv (1#32 <<< p) 0#32 .pushbutton mode dc dop) s =
      .next { s with halted := true, err := 3#4 }) ∧
    (p < s.nSlots → q < s.nSlots → p = q ∨ s.slot p ≠ none ∨ s.slot q ≠ none →
      exec (.register c nv (1#32 <<< p) (1#32 <<< q) .pair mode dc dop) s = .next { s with halted := true, err := 3#4 })

/-- R156: every descriptor has a slot of its own, so the arena cannot overflow: NDESC <= N. -/
def Obligations.ArenaCannotOverflow : Prop :=
  ∀ s : State, s.RegistryInv → s.ndesc ≤ s.nSlots

/-- R158: START arms the driver and issues the first transfer with OUTW, once. -/
def Obligations.StartIssuesFirstTransfer : Prop :=
  ∀ s : State, s.halted = false →
    (s.armed = false → exec .start s = .next { s with armed := true, outbox := .issue s.outw :: s.outbox }) ∧
    (s.armed = true → exec .start s = .refused .secondStart)

/-! ### The consumer commands (47_notification.md) -/

/-- R227: SETOUT writes OUTW, in any phase but HALT. -/
def Obligations.SetoutWritesOutputWord : Prop :=
  ∀ (s : State) (w : Sample), s.halted = false → exec (.setout w) s = .next { s with outw := w }

/-- R225: RDDEB returns the committed value, zero-extended, and has no side effect; an unknown handle is refused. -/
def Obligations.RddebReturnsCommittedValue : Prop :=
  ∀ (s : State) (h : Nat), s.halted = false →
    (∀ d, s.descs[h]? = some d →
      exec (.rddeb h) s = .next { s with outbox := .response (d.debounced.setWidth 32) :: s.outbox }) ∧
    (s.ndesc ≤ h → exec (.rddeb h) s = .refused .unknownHandle)

/-- R226, R223: TAKE returns PEND[c] and clears it, and with it WAKE[c]; every other word stands. That the word is
cleared the spec takes from general knowledge (93_implementation_defined.md G3). -/
def Obligations.TakeReturnsAndClears : Prop :=
  ∀ (s : State) (c : BitVec 4), s.halted = false → ∃ t,
    exec (.take c) s = .next t ∧
    t = { s with pend := s.pend.set c.toNat 0#32 c.isLt, outbox := .response (s.pend[c.toNat]'c.isLt) :: s.outbox } ∧
    t.wake c = false ∧ ∀ b, b ≠ c → t.pendOf b = s.pendOf b

/-! ### The Bit Scanner (40_bit_scanner.md) -/

/-- R110: clz(x) is the n with x[31-n] = 1 and no bit set above it; it has no value for zero alone, which is Fatal(1)
where REGISTER reaches it. -/
def Obligations.ClzFindsLeadingBit : Prop :=
  (∀ x : Word,
    (∀ n, clz x = some n ↔ n ≤ 31 ∧ x.getLsbD (31 - n) = true ∧ ∀ i, 31 - n < i → x.getLsbD i = false) ∧
    (clz x = none ↔ x = 0#32)) ∧
  ∀ dir, maskPosition dir 0#32 = .error (.fatal .zeroMask)

/-- R111, R112: the most significant set bit, and the least, which the leading-zero primitive reaches through
x and (0 - x). -/
def Obligations.ScannerFindsEitherEnd : Prop :=
  ∀ x : Word,
    (∀ i, bscanMs x = some i ↔ x.getLsbD i = true ∧ ∀ j, i < j → x.getLsbD j = false) ∧
    (∀ i, bscanLs x = some i ↔ x.getLsbD i = true ∧ ∀ j, j < i → x.getLsbD j = false) ∧
    bscanLs x = (clz (x &&& (0#32 - x))).map fun n => 31 - n

/-- R114: the four laws of the scanner, in both directions. -/
def Obligations.ScannerLaws : Prop :=
  ∀ (dir : ScanDir) (x : Word), x ≠ 0#32 → ∃ p, scan dir x = some p ∧
    x.getLsbD p = true ∧ p ≤ 31 ∧ popcount (x &&& ~~~(1#32 <<< p)) + 1 = popcount x ∧
    (x.toNat < 2 ^ 16 → p < 16)

/-! ### Dispatch (42_change_detector.md) -/

/-- R144: a changed bit nobody owns is cleared from the working copy, and nothing else happens. -/
def Obligations.DispNoneSkipsBit : Prop :=
  ∀ (s : State) (pos : Nat), s.halted = false → s.reg[pos]? = some none →
    exec (.dispNone pos) s =
      .next { s with scratch := { s.scratch with work := s.scratch.work &&& ~~~(1#32 <<< pos) } }

/-- R145, R171: a changed bit of a Pushbutton is cleared, raw takes its new level, and the one PBEV transition that
the descriptor then selects runs. -/
def Obligations.DispPbRunsOneTransition : Prop :=
  ∀ (s : State) (pos h : Nat) (d : Descriptor), s.halted = false → s.reg[pos]? = some (some h) →
    s.descs[h]? = some d → d.kind = .pushbutton →
    ∃ t row, exec (.dispPb pos) s = .next t ∧
      exec (Instr.ofPb row h) { s with
        descs := s.descs.set h { d with raw := if s.scratch.rx.getLsbD pos then 1#2 else 0#2 },
        scratch := { s.scratch with work := s.scratch.work &&& ~~~(1#32 <<< pos) } } = .next t

/-- R146, R201, R202: a changed bit of a Pair clears both its positions, raw takes the code of both bits of the sample,
and the one PAIR transition that the descriptor then selects runs. -/
def Obligations.DispPairRunsOneTransition : Prop :=
  ∀ (s : State) (pos h : Nat) (d : Descriptor), s.halted = false → s.reg[pos]? = some (some h) →
    s.descs[h]? = some d → d.kind = .pair →
    ∃ t row, exec (.dispPair pos) s = .next t ∧
      exec (Instr.ofPair row h) { s with
        descs := s.descs.set h { d with
          raw := BitVec.ofBool (s.scratch.rx.getLsbD d.bitSecondary.toNat) ++
            BitVec.ofBool (s.scratch.rx.getLsbD d.bitPrimary.toNat) },
        scratch := { s.scratch with
          work := s.scratch.work &&& ~~~((1#32 <<< d.bitPrimary.toNat) ||| (1#32 <<< d.bitSecondary.toNat)) } } = .next t

/-- R114, R142, R147 (1): from a registry that meets its invariant the loop never runs out of passes, and where it ends
the working copy is exactly zero. -/
def Obligations.DispatchLoopEndsAtZero : Prop :=
  ∀ (s : State) (dir : ScanDir), s.RegistryInv →
    dispatchLoop 32 dir s ≠ .error (.stuck .scanUnfinished) ∧
    ∀ t, dispatchLoop 32 dir s = .ok t → t.scratch.work = 0#32

/-! ### The pushbutton events (44_pushbutton_fsm.md) -/

/-- R172, R175: with a zero duration the new level is committed and notified at once, in either mode, without a timer. -/
def Obligations.ZeroDurationCommitsAtOnce : Prop :=
  ∀ (s : State) (h : Nat) (d : Descriptor), s.halted = false → s.descs[h]? = some d → d.kind = .pushbutton →
    (d.machineState = .closed → d.raw.getLsbD 0 = true → d.durationOpening = 0#16 →
      exec (.pbOpenInstant h) s = .next { s with
        descs := s.descs.set h { d with debounced := 1#2, machineState := .opened },
        pend := s.pend.set d.consumer.toNat (s.pend[d.consumer.toNat]'d.consumer.isLt ||| d.notifyValue) d.consumer.isLt }) ∧
    (d.machineState = .opened → d.raw.getLsbD 0 = false → d.durationClosing = 0#16 →
      exec (.pbCloseInstant h) s = .next { s with
        descs := s.descs.set h { d with debounced := 0#2, machineState := .closed },
        pend := s.pend.set d.consumer.toNat (s.pend[d.consumer.toNat]'d.consumer.isLt ||| d.notifyValue) d.consumer.isLt })

/-- R173, R176: in Immediate mode the new level is committed and notified, and the timer starts. -/
def Obligations.ImmediateCommitsAndStartsTimer : Prop :=
  ∀ (s : State) (h : Nat) (d : Descriptor), s.halted = false → s.descs[h]? = some d → d.kind = .pushbutton →
    d.mode = .immediate →
    (d.machineState = .closed → d.raw.getLsbD 0 = true → d.durationOpening ≠ 0#16 →
      exec (.pbOpenImm h) s = .next { s with
        descs := s.descs.set h { d with
          debounced := 1#2, machineState := .opening, countdown := d.durationOpening, next := s.head },
        head := some h,
        pend := s.pend.set d.consumer.toNat (s.pend[d.consumer.toNat]'d.consumer.isLt ||| d.notifyValue) d.consumer.isLt }) ∧
    (d.machineState = .opened → d.raw.getLsbD 0 = false → d.durationClosing ≠ 0#16 →
      exec (.pbCloseImm h) s = .next { s with
        descs := s.descs.set h { d with
          debounced := 0#2, machineState := .closing, countdown := d.durationClosing, next := s.head },
        head := some h,
        pend := s.pend.set d.consumer.toNat (s.pend[d.consumer.toNat]'d.consumer.isLt ||| d.notifyValue) d.consumer.isLt })

/-- R174, R177: in Settled mode the timer starts and nothing is committed or notified. -/
def Obligations.SettledOnlyStartsTimer : Prop :=
  ∀ (s : State) (h : Nat) (d : Descriptor), s.halted = false → s.descs[h]? = some d → d.kind = .pushbutton →
    d.mode = .settled →
    (d.machineState = .closed → d.raw.getLsbD 0 = true → d.durationOpening ≠ 0#16 →
      exec (.pbOpenSet h) s = .next { s with
        descs := s.descs.set h { d with machineState := .opening, countdown := d.durationOpening, next := s.head },
        head := some h }) ∧
    (d.machineState = .opened → d.raw.getLsbD 0 = false → d.durationClosing ≠ 0#16 →
      exec (.pbCloseSet h) s = .next { s with
        descs := s.descs.set h { d with machineState := .closing, countdown := d.durationClosing, next := s.head },
        head := some h })

/-- R178, R179: a raw change in a timer state reloads the state's own duration, whatever the new level, the mode and
the durations, and does nothing else. -/
def Obligations.BounceExtendsTimer : Prop :=
  ∀ (s : State) (h : Nat) (d : Descriptor), s.halted = false → s.descs[h]? = some d → d.kind = .pushbutton →
    (d.machineState = .opening → exec (.pbExtendOpening h) s =
      .next { s with descs := s.descs.set h { d with countdown := d.durationOpening } }) ∧
    (d.machineState = .closing → exec (.pbExtendClosing h) s =
      .next { s with descs := s.descs.set h { d with countdown := d.durationClosing } })

/-- R180: an event that agrees with a settled state does nothing beyond the write of raw. -/
def Obligations.AgreeingEventDoesNothing : Prop :=
  ∀ (s : State) (h : Nat) (d : Descriptor), s.halted = false → s.descs[h]? = some d → d.kind = .pushbutton →
    (d.machineState = .closed → d.raw.getLsbD 0 = false → exec (.pbNoneClosed h) s = .next s) ∧
    (d.machineState = .opened → d.raw.getLsbD 0 = true → exec (.pbNoneOpen h) s = .next s)

/-! ### Settle -/

/-- R182, R186, R185, R189: the settles that neither commit nor notify. That it holds of any
descriptor showing the selector, where R181 speaks of a member just brought to 0, is the model's choice, log 23. -/
def Obligations.SilentSettles : Prop :=
  ∀ (s : State) (h : Nat) (d : Descriptor), s.halted = false → s.descs[h]? = some d →
    (d.machineState = .opening → d.raw.getLsbD 0 = true → d.mode = .immediate →
      exec (.settleOpeningConfirmImm h) s = .next { s with descs := s.descs.set h { d with machineState := .opened } }) ∧
    (d.machineState = .opening → d.raw.getLsbD 0 = false → d.mode = .settled →
      exec (.settleOpeningBounceSet h) s = .next { s with descs := s.descs.set h { d with machineState := .closed } }) ∧
    (d.machineState = .closing → d.raw.getLsbD 0 = false → d.mode = .immediate →
      exec (.settleClosingConfirmImm h) s = .next { s with descs := s.descs.set h { d with machineState := .closed } }) ∧
    (d.machineState = .closing → d.raw.getLsbD 0 = true → d.mode = .settled →
      exec (.settleClosingBounceSet h) s = .next { s with descs := s.descs.set h { d with machineState := .opened } })

/-- R183, R187: in Settled mode a confirmed direction is committed and notified at the settle. That it holds of any
descriptor showing the selector, where R181 speaks of a member just brought to 0, is the model's choice, log 23. -/
def Obligations.SettledConfirmCommits : Prop :=
  ∀ (s : State) (h : Nat) (d : Descriptor), s.halted = false → s.descs[h]? = some d → d.mode = .settled →
    (d.machineState = .opening → d.raw.getLsbD 0 = true →
      exec (.settleOpeningConfirmSet h) s = .next { s with
        descs := s.descs.set h { d with machineState := .opened, debounced := 1#2 },
        pend := s.pend.set d.consumer.toNat (s.pend[d.consumer.toNat]'d.consumer.isLt ||| d.notifyValue) d.consumer.isLt }) ∧
    (d.machineState = .closing → d.raw.getLsbD 0 = false →
      exec (.settleClosingConfirmSet h) s = .next { s with
        descs := s.descs.set h { d with machineState := .closed, debounced := 0#2 },
        pend := s.pend.set d.consumer.toNat (s.pend[d.consumer.toNat]'d.consumer.isLt ||| d.notifyValue) d.consumer.isLt })

/-- R184, R188: in Immediate mode a bounce-back is corrected and notified at the settle. That it holds of any
descriptor showing the selector, where R181 speaks of a member just brought to 0, is the model's choice, log 23. -/
def Obligations.ImmediateBounceIsCorrected : Prop :=
  ∀ (s : State) (h : Nat) (d : Descriptor), s.halted = false → s.descs[h]? = some d → d.mode = .immediate →
    (d.machineState = .opening → d.raw.getLsbD 0 = false →
      exec (.settleOpeningBounceImm h) s = .next { s with
        descs := s.descs.set h { d with machineState := .closed, debounced := 0#2 },
        pend := s.pend.set d.consumer.toNat (s.pend[d.consumer.toNat]'d.consumer.isLt ||| d.notifyValue) d.consumer.isLt }) ∧
    (d.machineState = .closing → d.raw.getLsbD 0 = true →
      exec (.settleClosingBounceImm h) s = .next { s with
        descs := s.descs.set h { d with machineState := .opened, debounced := 1#2 },
        pend := s.pend.set d.consumer.toNat (s.pend[d.consumer.toNat]'d.consumer.isLt ||| d.notifyValue) d.consumer.isLt })

/-! ### Pairs (45_pair_logic.md) -/

/-- R203: an indeterminate code does nothing beyond the write of raw. -/
def Obligations.IndeterminateCodeIsIgnored : Prop :=
  ∀ (s : State) (h : Nat) (d : Descriptor), s.halted = false → s.descs[h]? = some d → d.kind = .pair →
    (d.raw = 0b00#2 → exec (.pairIgnore00 h) s = .next s) ∧
    (d.raw = 0b11#2 → exec (.pairIgnore11 h) s = .next s)

/-- R204: a definite code is committed and notified only if it differs from the committed one. -/
def Obligations.DefiniteCodeCommitsIfNew : Prop :=
  ∀ (s : State) (h : Nat) (d : Descriptor), s.halted = false → s.descs[h]? = some d → d.kind = .pair →
    (d.raw = 0b01#2 → d.debounced ≠ 0b01#2 → exec (.pairCommit01 h) s = .next { s with
      descs := s.descs.set h { d with debounced := 0b01#2 },
      pend := s.pend.set d.consumer.toNat (s.pend[d.consumer.toNat]'d.consumer.isLt ||| d.notifyValue) d.consumer.isLt }) ∧
    (d.raw = 0b10#2 → d.debounced ≠ 0b10#2 → exec (.pairCommit10 h) s = .next { s with
      descs := s.descs.set h { d with debounced := 0b10#2 },
      pend := s.pend.set d.consumer.toNat (s.pend[d.consumer.toNat]'d.consumer.isLt ||| d.notifyValue) d.consumer.isLt }) ∧
    (d.raw = 0b01#2 → d.debounced = 0b01#2 → exec (.pairSame01 h) s = .next s) ∧
    (d.raw = 0b10#2 → d.debounced = 0b10#2 → exec (.pairSame10 h) s = .next s)

/-! ### The tick (46_active_set.md) -/

/-- R213: a member whose countdown does not reach zero is decremented. Beyond R213, and the model's choice: any descriptor
whose countdown is not 1 is, a non-member or a Pair too (log 23), and a countdown of 0, where R230 says the decrement
never goes below 0 and no run has such a member, wraps to 65535 (log 20). -/
def Obligations.TickHoldDecrements : Prop :=
  ∀ (s : State) (h : Nat) (d : Descriptor), s.halted = false → s.descs[h]? = some d → d.countdown ≠ 1#16 →
    exec (.tickHold h) s = .next { s with descs := s.descs.set h { d with countdown := d.countdown - 1#16 } }

/-- R214, R181: a descriptor in Opening or Closing whose countdown reaches zero is settled by the one SETL transition it
selects and then unlinked from the previous node, or from HEAD. R214 gives this for a member; that it holds of any such
descriptor, linked or not, a Pair too, is the model's choice, log 23. -/
def Obligations.TickExpireSettlesAndUnlinks : Prop :=
  ∀ (s : State) (h : Nat) (d : Descriptor), s.halted = false → s.descs[h]? = some d → d.countdown = 1#16 →
    (d.machineState = .opening ∨ d.machineState = .closing) →
    ∃ row u, exec (Instr.ofSettle row h) { s with descs := s.descs.set h { d with countdown := 0#16 } } = .next u ∧
      exec (.tickExpire h) s = .next (match s.scratch.prevNode with
        | none => { u with head := d.next, descs := u.descs.modify h fun e => { e with next := none } }
        | some p => { u with
            descs := (u.descs.modify p fun e => { e with next := d.next }).modify h fun e => { e with next := none } })

/-- R94: of the transitions of a selector exactly one fires on a descriptor (a settle only in a timer state), and of the
DISP transitions exactly one at a slot. That a transition fires on its own at all is the model's choice, log 9, and
so is that a settle or a tick transition then asks neither for kind nor for membership, log 23. -/
def Obligations.ExactlyOneTransitionFires : Prop :=
  ∀ (s : State) (h : Nat) (d : Descriptor), s.halted = false → s.descs[h]? = some d →
    (d.kind = .pushbutton → ∃! row, Completes (exec (Instr.ofPb row h) s)) ∧
    (d.machineState = .opening ∨ d.machineState = .closing → ∃! row, Completes (exec (Instr.ofSettle row h) s)) ∧
    (d.kind = .pair → ∃! row, Completes (exec (Instr.ofPair row h) s)) ∧
    (d.machineState = .opening ∨ d.machineState = .closing → ∃! row, Completes (exec (Instr.ofTick row h) s)) ∧
    ∀ pos, s.reg[pos]? = some none ∨ s.reg[pos]? = some (some h) →
      ∃! row, Completes (exec (Instr.ofDisp row pos) s)

/-! ### The scan cycle (41_scan_cycle.md) -/

/-- R122, R124, R126: a start-up cycle, with nothing counting down, decrements SKIP, counts and re-arms; the sample is
ignored. -/
def Obligations.StartupCycleOnlyCounts : Prop :=
  ∀ (s : State) (rx : Sample), s.halted = false → s.armed = true → 0 < s.skip → s.head = none →
    s.scratch = Scratch.idle →
    exec (.xferDone rx) s = .next { s with
      skip := s.skip - 1, cyc := s.cyc + 1#32, div := if s.div + 1 = s.params.k then 0 else s.div + 1,
      outbox := .issue s.outw :: s.outbox }

/-- R128, R124, R126: a repeated sample, in a cycle without a tick, only counts and re-arms. -/
def Obligations.RepeatedSampleOnlyCounts : Prop :=
  ∀ s : State, s.halted = false → s.armed = true → s.skip = 0 → s.div + 1 ≠ s.params.k → s.scratch = Scratch.idle →
    exec (.xferDone s.prev) s = .next { s with
      cyc := s.cyc + 1#32, div := s.div + 1, outbox := .issue s.outw :: s.outbox }

/-- R121 to R126, R74, R234: at a boundary, with N >= W, an outstanding transfer's completion always runs to its end:
it counts, re-arms with OUTW, keeps the phase, and writes neither the registry nor a configuration field. -/
def Obligations.ScanCycleRunsToItsEnd : Prop :=
  ∀ (s : State) (rx : Sample), s.Inv → s.halted = false → s.armed = true → 16 ≤ s.nSlots →
    ∃ t, exec (.xferDone rx) s = .next t ∧
      t.outbox = .issue s.outw :: s.outbox ∧ t.cyc = s.cyc + 1#32 ∧
      t.div = (if s.div + 1 = s.params.k then 0 else s.div + 1) ∧
      t.skip = s.skip - 1 ∧ t.prev = (if 0 < s.skip then s.prev else rx) ∧
      t.armed = true ∧ t.halted = false ∧ t.err = 0#4 ∧ t.outw = s.outw ∧ t.reg = s.reg ∧ t.params = s.params ∧
      t.descs.map Descriptor.config = s.descs.map Descriptor.config ∧ t.scratch = Scratch.idle ∧ t.inbox = s.inbox

/-- R147 (1), R145, R146, and the order (a), (b) of R121: in a compared cycle every descriptor that owns a changed bit
gets exactly its one event and every other none, giving `a`; then the tick, if it is due, acts on `a`; and PEND is
notified for exactly the descriptors whose debounced changed. -/
def Obligations.EveryChangeReachesItsOwnerOnce : Prop :=
  ∀ (s : State) (rx : Sample), s.Inv → s.halted = false → s.armed = true → s.skip = 0 → 16 ≤ s.nSlots →
    ∃ t, exec (.xferDone rx) s = .next t ∧ s.NotifiedExactly t ∧
      ∀ (h : Nat) (d : Descriptor), s.descs[h]? = some d → ∃ a b, t.descs[h]? = some b ∧
        ((∀ p, d.Owns p → s.prev.getLsbD p = rx.getLsbD p) →
          a = d ∧ (s.div + 1 ≠ s.params.k ∨ ¬ d.Timing → b = d)) ∧
        ((∃ p, d.Owns p ∧ s.prev.getLsbD p ≠ rx.getLsbD p) →
          ∃ u, (match d.kind with
              | .pushbutton => pbEvent h (rx.getLsbD d.bitPrimary.toNat) s
              | .pair => pairEvent h rx s) = .ok u ∧ u.descs[h]? = some a) ∧
        (s.div + 1 ≠ s.params.k → b.apartFromLink = a.apartFromLink) ∧
        (s.div + 1 = s.params.k → a.Ticked b)

/-- R125, R252: a countdown loaded or reloaded by the event of a cycle is decremented by the tick of the same cycle, and
a duration of 1 settles at once. `dur` is the duration of the direction the descriptor then stands in; the two
premises on a settled state leave out the events of PB.NONE (R180). -/
def Obligations.TickCountsTheCountdownOfItsOwnCycle : Prop :=
  ∀ (s : State) (rx : Sample) (h : Nat) (d : Descriptor) (r : Bool) (dur : Ticks),
    s.Inv → s.halted = false → s.armed = true → s.skip = 0 → 16 ≤ s.nSlots → s.div + 1 = s.params.k →
    s.descs[h]? = some d → d.kind = .pushbutton → r = rx.getLsbD d.bitPrimary.toNat →
    s.prev.getLsbD d.bitPrimary.toNat ≠ r →
    (d.machineState = .closed → r = true) → (d.machineState = .opened → r = false) →
    dur = (if d.machineState = .closed ∨ d.machineState = .opening then d.durationOpening else d.durationClosing) →
    ∃ t b, exec (.xferDone rx) s = .next t ∧ t.descs[h]? = some b ∧
      (2#16 ≤ dur → b.countdown = dur - 1#16 ∧ b.machineState =
        (if d.machineState = .closed ∨ d.machineState = .opening then .opening else .closing)) ∧
      (dur = 1#16 → b.countdown = 0#16 ∧ b.machineState = (if r then .opened else .closed) ∧
        b.debounced = levelCode r ∧ b.next = none)

/-- R143, R241, R246: a changed bit at or beyond N halts with code 4; REG, NDESC, OUTW, ARMED, CYC, DIV and SKIP are as
before and no transfer is issued. -/
def Obligations.ChangeBeyondRegistryHalts : Prop :=
  ∀ (s : State) (rx : Sample), s.Inv → s.halted = false → s.armed = true → s.skip = 0 →
    (∃ p, p < 16 ∧ s.nSlots ≤ p ∧ s.prev.getLsbD p ≠ rx.getLsbD p) →
    ∃ t, exec (.xferDone rx) s = .next t ∧ t.halted = true ∧ t.err = 4#4 ∧ t.reg = s.reg ∧ t.ndesc = s.ndesc ∧
      t.outw = s.outw ∧ t.armed = s.armed ∧ t.cyc = s.cyc ∧ t.div = s.div ∧ t.skip = s.skip ∧ t.outbox = s.outbox

/-- R212, R213, R214: a tick, seen in a cycle with a repeated sample, decrements every member, settles those that reach
zero to the level of their raw, unlinks exactly those, touches no other descriptor, and notifies exactly for the
descriptors whose debounced changed. -/
def Obligations.TickAdvancesEveryMember : Prop :=
  ∀ (s : State) (l : List Nat), s.Inv → s.halted = false → s.armed = true → s.skip = 0 → s.div + 1 = s.params.k →
    s.IsAds l →
    ∃ t, exec (.xferDone s.prev) s = .next t ∧ s.NotifiedExactly t ∧
      t.IsAds (l.filter fun h => s.descs[h]?.map Descriptor.countdown != some 1#16) ∧
      ∀ (h : Nat) (d : Descriptor), s.descs[h]? = some d →
        (¬ d.Timing → t.descs[h]? = some d) ∧
        (d.Timing → d.countdown ≠ 1#16 → ∃ e, t.descs[h]? = some e ∧
          e.apartFromLink = { d with countdown := d.countdown - 1#16, next := none }) ∧
        (d.Timing → d.countdown = 1#16 → t.descs[h]? = some { d with
          countdown := 0#16, machineState := if d.raw.getLsbD 0 then .opened else .closed,
          debounced := if d.raw.getLsbD 0 then 1#2 else 0#2, next := none })

/-- R147 (2), R215: what a scan cycle leaves does not depend on SCAN_DIR, but for the order of the set. -/
def Obligations.ScanDirectionIsUnobservable : Prop :=
  ∀ (s t : State) (rx : Sample) (dir : ScanDir), s.Inv → 16 ≤ s.nSlots → exec (.xferDone rx) s = .next t →
    ∃ t', exec (.xferDone rx) { s with params := { s.params with scanDir := dir } } = .next t' ∧ t'.SameButOrder t

/-! ### Rules over all operations (48_arithmetic_and_control.md, 10_state.md) -/

/-- R222: no operation but TAKE (and RESET) clears a pending bit. -/
def Obligations.PendingBitsLastUntilTake : Prop :=
  ∀ (i : Instr) (s t : State) (c : BitVec 4), exec i s = .next t → i ≠ .reset → i ≠ .take c →
    s.pendOf c ||| t.pendOf c = t.pendOf c

/-- R67 (1), R224: whatever a scan cycle commits it has also notified, by the end of the same step. -/
def Obligations.EveryCommitIsNotified : Prop :=
  ∀ (s t : State) (rx : Sample) (h : Nat) (d e : Descriptor), exec (.xferDone rx) s = .next t →
    s.descs[h]? = some d → t.descs[h]? = some e → e.debounced ≠ d.debounced →
    t.pendOf d.consumer &&& d.notifyValue = d.notifyValue

/-- R234, R47: who may write what. -/
def Obligations.WriteAuthority : Prop :=
  ∀ (i : Instr) (s t : State), exec i s = .next t → i ≠ .reset →
    ((∀ c nv mp ms kind mode dc dop, i ≠ .register c nv mp ms kind mode dc dop) →
      t.reg = s.reg ∧ t.descs.map Descriptor.config = s.descs.map Descriptor.config) ∧
    ((∀ w, i ≠ .setout w) → t.outw = s.outw) ∧
    (i ≠ .start → t.armed = s.armed) ∧
    ((∀ rx, i ≠ .xferDone rx) → t.prev = s.prev ∧ t.cyc = s.cyc ∧ t.div = s.div ∧ t.skip = s.skip)

/-- R45 (3), R47: a host command changes no descriptor that exists, nor the set, the sample or a counter. -/
def Obligations.CommandsLeaveDescriptorsAlone : Prop :=
  ∀ (i : Instr) (s t : State), i.format = .cmd → exec i s = .next t →
    s.descs <+: t.descs ∧ t.head = s.head ∧ t.prev = s.prev ∧ t.cyc = s.cyc ∧ t.div = s.div ∧ t.skip = s.skip ∧
    t.scratch = s.scratch

/-- K and N_DISCARD are constants (R44). That SCAN_DIR, LATE_REG and N are constants too rests on their being parameters
(R5) and on the model's reading, logs 4 and 5. -/
def Obligations.ParametersAreConstant : Prop :=
  ∀ s t : State, step s = .next t → t.params = s.params ∧ t.nSlots = s.nSlots

/-! ### Invariants (10_state.md R45, R46) -/

/-- The reset state meets the invariant. -/
def Obligations.ResetMeetsInvariant : Prop := State.reset.Inv

/-- R22, R245: every step keeps HALTED and ERR in agreement. -/
def Obligations.StepKeepsPhase : Prop :=
  ∀ s t : State, s.PhaseInv → step s = .next t → t.PhaseInv

/-- R45 (1), R46 (g), R35: every step keeps the registry and the descriptors in agreement. -/
def Obligations.StepKeepsRegistry : Prop :=
  ∀ s t : State, s.RegistryInv → step s = .next t → t.RegistryInv

/-- R45, R46: every step keeps the invariant of the engine. -/
def Obligations.StepKeepsInvariant : Prop :=
  ∀ s t : State, s.Inv → step s = .next t → t.Inv

/-- R74, R43, R127: at a boundary a completion answers a next state (the end of the cycle, or the halt of Fatal(4))
exactly when a transfer is outstanding. -/
def Obligations.CompletionEnabledExactlyWhenOutstanding : Prop :=
  ∀ (s : State) (rx : Sample), s.Inv → (Completes (exec (.xferDone rx) s) ↔ s.outstanding = true)
end

