-- ==== Sys2Proof/Laws/State.lean ====
section
/-!
SUPPORT. What every named update of the state does to every field: one lemma per field and update, true by rfl, and the
named updates that are a `modDesc` or an `emit` written so.
-/

namespace Sys2Proof.Machine

open Sys2Proof

/-! ### modDesc -/

@[simp] theorem modDesc_params (s : State) (h : Nat) (f : Descriptor → Descriptor) : (s.modDesc h f).params = s.params := rfl
@[simp] theorem modDesc_descs (s : State) (h : Nat) (f : Descriptor → Descriptor) : (s.modDesc h f).descs = s.descs.modify h f := rfl
@[simp] theorem modDesc_reg (s : State) (h : Nat) (f : Descriptor → Descriptor) : (s.modDesc h f).reg = s.reg := rfl
@[simp] theorem modDesc_pend (s : State) (h : Nat) (f : Descriptor → Descriptor) : (s.modDesc h f).pend = s.pend := rfl
@[simp] theorem modDesc_head (s : State) (h : Nat) (f : Descriptor → Descriptor) : (s.modDesc h f).head = s.head := rfl
@[simp] theorem modDesc_prev (s : State) (h : Nat) (f : Descriptor → Descriptor) : (s.modDesc h f).prev = s.prev := rfl
@[simp] theorem modDesc_outw (s : State) (h : Nat) (f : Descriptor → Descriptor) : (s.modDesc h f).outw = s.outw := rfl
@[simp] theorem modDesc_cyc (s : State) (h : Nat) (f : Descriptor → Descriptor) : (s.modDesc h f).cyc = s.cyc := rfl
@[simp] theorem modDesc_div (s : State) (h : Nat) (f : Descriptor → Descriptor) : (s.modDesc h f).div = s.div := rfl
@[simp] theorem modDesc_skip (s : State) (h : Nat) (f : Descriptor → Descriptor) : (s.modDesc h f).skip = s.skip := rfl
@[simp] theorem modDesc_armed (s : State) (h : Nat) (f : Descriptor → Descriptor) : (s.modDesc h f).armed = s.armed := rfl
@[simp] theorem modDesc_halted (s : State) (h : Nat) (f : Descriptor → Descriptor) : (s.modDesc h f).halted = s.halted := rfl
@[simp] theorem modDesc_err (s : State) (h : Nat) (f : Descriptor → Descriptor) : (s.modDesc h f).err = s.err := rfl
@[simp] theorem modDesc_scratch (s : State) (h : Nat) (f : Descriptor → Descriptor) : (s.modDesc h f).scratch = s.scratch := rfl
@[simp] theorem modDesc_inbox (s : State) (h : Nat) (f : Descriptor → Descriptor) : (s.modDesc h f).inbox = s.inbox := rfl
@[simp] theorem modDesc_outbox (s : State) (h : Nat) (f : Descriptor → Descriptor) : (s.modDesc h f).outbox = s.outbox := rfl
@[simp] theorem modDesc_draws (s : State) (h : Nat) (f : Descriptor → Descriptor) : (s.modDesc h f).draws = s.draws := rfl

/-! ### setSlot -/

@[simp] theorem setSlot_params (s : State) (p h : Nat) : (s.setSlot p h).params = s.params := rfl
@[simp] theorem setSlot_descs (s : State) (p h : Nat) : (s.setSlot p h).descs = s.descs := rfl
@[simp] theorem setSlot_reg (s : State) (p h : Nat) : (s.setSlot p h).reg = s.reg.set p (some h) := rfl
@[simp] theorem setSlot_pend (s : State) (p h : Nat) : (s.setSlot p h).pend = s.pend := rfl
@[simp] theorem setSlot_head (s : State) (p h : Nat) : (s.setSlot p h).head = s.head := rfl
@[simp] theorem setSlot_prev (s : State) (p h : Nat) : (s.setSlot p h).prev = s.prev := rfl
@[simp] theorem setSlot_outw (s : State) (p h : Nat) : (s.setSlot p h).outw = s.outw := rfl
@[simp] theorem setSlot_cyc (s : State) (p h : Nat) : (s.setSlot p h).cyc = s.cyc := rfl
@[simp] theorem setSlot_div (s : State) (p h : Nat) : (s.setSlot p h).div = s.div := rfl
@[simp] theorem setSlot_skip (s : State) (p h : Nat) : (s.setSlot p h).skip = s.skip := rfl
@[simp] theorem setSlot_armed (s : State) (p h : Nat) : (s.setSlot p h).armed = s.armed := rfl
@[simp] theorem setSlot_halted (s : State) (p h : Nat) : (s.setSlot p h).halted = s.halted := rfl
@[simp] theorem setSlot_err (s : State) (p h : Nat) : (s.setSlot p h).err = s.err := rfl
@[simp] theorem setSlot_scratch (s : State) (p h : Nat) : (s.setSlot p h).scratch = s.scratch := rfl
@[simp] theorem setSlot_inbox (s : State) (p h : Nat) : (s.setSlot p h).inbox = s.inbox := rfl
@[simp] theorem setSlot_outbox (s : State) (p h : Nat) : (s.setSlot p h).outbox = s.outbox := rfl
@[simp] theorem setSlot_draws (s : State) (p h : Nat) : (s.setSlot p h).draws = s.draws := rfl

/-! ### setPend -/

@[simp] theorem setPend_params (s : State) (c : BitVec 4) (v : Word) : (s.setPend c v).params = s.params := rfl
@[simp] theorem setPend_descs (s : State) (c : BitVec 4) (v : Word) : (s.setPend c v).descs = s.descs := rfl
@[simp] theorem setPend_reg (s : State) (c : BitVec 4) (v : Word) : (s.setPend c v).reg = s.reg := rfl
@[simp] theorem setPend_pend (s : State) (c : BitVec 4) (v : Word) : (s.setPend c v).pend = s.pend.set c.toNat v c.isLt := rfl
@[simp] theorem setPend_head (s : State) (c : BitVec 4) (v : Word) : (s.setPend c v).head = s.head := rfl
@[simp] theorem setPend_prev (s : State) (c : BitVec 4) (v : Word) : (s.setPend c v).prev = s.prev := rfl
@[simp] theorem setPend_outw (s : State) (c : BitVec 4) (v : Word) : (s.setPend c v).outw = s.outw := rfl
@[simp] theorem setPend_cyc (s : State) (c : BitVec 4) (v : Word) : (s.setPend c v).cyc = s.cyc := rfl
@[simp] theorem setPend_div (s : State) (c : BitVec 4) (v : Word) : (s.setPend c v).div = s.div := rfl
@[simp] theorem setPend_skip (s : State) (c : BitVec 4) (v : Word) : (s.setPend c v).skip = s.skip := rfl
@[simp] theorem setPend_armed (s : State) (c : BitVec 4) (v : Word) : (s.setPend c v).armed = s.armed := rfl
@[simp] theorem setPend_halted (s : State) (c : BitVec 4) (v : Word) : (s.setPend c v).halted = s.halted := rfl
@[simp] theorem setPend_err (s : State) (c : BitVec 4) (v : Word) : (s.setPend c v).err = s.err := rfl
@[simp] theorem setPend_scratch (s : State) (c : BitVec 4) (v : Word) : (s.setPend c v).scratch = s.scratch := rfl
@[simp] theorem setPend_inbox (s : State) (c : BitVec 4) (v : Word) : (s.setPend c v).inbox = s.inbox := rfl
@[simp] theorem setPend_outbox (s : State) (c : BitVec 4) (v : Word) : (s.setPend c v).outbox = s.outbox := rfl
@[simp] theorem setPend_draws (s : State) (c : BitVec 4) (v : Word) : (s.setPend c v).draws = s.draws := rfl

/-! ### emit -/

@[simp] theorem emit_params (s : State) (o : Output) : (s.emit o).params = s.params := rfl
@[simp] theorem emit_descs (s : State) (o : Output) : (s.emit o).descs = s.descs := rfl
@[simp] theorem emit_reg (s : State) (o : Output) : (s.emit o).reg = s.reg := rfl
@[simp] theorem emit_pend (s : State) (o : Output) : (s.emit o).pend = s.pend := rfl
@[simp] theorem emit_head (s : State) (o : Output) : (s.emit o).head = s.head := rfl
@[simp] theorem emit_prev (s : State) (o : Output) : (s.emit o).prev = s.prev := rfl
@[simp] theorem emit_outw (s : State) (o : Output) : (s.emit o).outw = s.outw := rfl
@[simp] theorem emit_cyc (s : State) (o : Output) : (s.emit o).cyc = s.cyc := rfl
@[simp] theorem emit_div (s : State) (o : Output) : (s.emit o).div = s.div := rfl
@[simp] theorem emit_skip (s : State) (o : Output) : (s.emit o).skip = s.skip := rfl
@[simp] theorem emit_armed (s : State) (o : Output) : (s.emit o).armed = s.armed := rfl
@[simp] theorem emit_halted (s : State) (o : Output) : (s.emit o).halted = s.halted := rfl
@[simp] theorem emit_err (s : State) (o : Output) : (s.emit o).err = s.err := rfl
@[simp] theorem emit_scratch (s : State) (o : Output) : (s.emit o).scratch = s.scratch := rfl
@[simp] theorem emit_inbox (s : State) (o : Output) : (s.emit o).inbox = s.inbox := rfl
@[simp] theorem emit_outbox (s : State) (o : Output) : (s.emit o).outbox = o :: s.outbox := rfl
@[simp] theorem emit_draws (s : State) (o : Output) : (s.emit o).draws = s.draws := rfl

/-! ### clearWork -/

@[simp] theorem clearWork_params (s : State) (m : Word) : (clearWork m s).params = s.params := rfl
@[simp] theorem clearWork_descs (s : State) (m : Word) : (clearWork m s).descs = s.descs := rfl
@[simp] theorem clearWork_reg (s : State) (m : Word) : (clearWork m s).reg = s.reg := rfl
@[simp] theorem clearWork_pend (s : State) (m : Word) : (clearWork m s).pend = s.pend := rfl
@[simp] theorem clearWork_head (s : State) (m : Word) : (clearWork m s).head = s.head := rfl
@[simp] theorem clearWork_prev (s : State) (m : Word) : (clearWork m s).prev = s.prev := rfl
@[simp] theorem clearWork_outw (s : State) (m : Word) : (clearWork m s).outw = s.outw := rfl
@[simp] theorem clearWork_cyc (s : State) (m : Word) : (clearWork m s).cyc = s.cyc := rfl
@[simp] theorem clearWork_div (s : State) (m : Word) : (clearWork m s).div = s.div := rfl
@[simp] theorem clearWork_skip (s : State) (m : Word) : (clearWork m s).skip = s.skip := rfl
@[simp] theorem clearWork_armed (s : State) (m : Word) : (clearWork m s).armed = s.armed := rfl
@[simp] theorem clearWork_halted (s : State) (m : Word) : (clearWork m s).halted = s.halted := rfl
@[simp] theorem clearWork_err (s : State) (m : Word) : (clearWork m s).err = s.err := rfl
@[simp] theorem clearWork_scratch (s : State) (m : Word) : (clearWork m s).scratch = { s.scratch with work := s.scratch.work &&& ~~~m } := rfl
@[simp] theorem clearWork_inbox (s : State) (m : Word) : (clearWork m s).inbox = s.inbox := rfl
@[simp] theorem clearWork_outbox (s : State) (m : Word) : (clearWork m s).outbox = s.outbox := rfl
@[simp] theorem clearWork_draws (s : State) (m : Word) : (clearWork m s).draws = s.draws := rfl

/-! ### setPrevNode -/

@[simp] theorem setPrevNode_params (s : State) (p : Option Nat) : (setPrevNode p s).params = s.params := rfl
@[simp] theorem setPrevNode_descs (s : State) (p : Option Nat) : (setPrevNode p s).descs = s.descs := rfl
@[simp] theorem setPrevNode_reg (s : State) (p : Option Nat) : (setPrevNode p s).reg = s.reg := rfl
@[simp] theorem setPrevNode_pend (s : State) (p : Option Nat) : (setPrevNode p s).pend = s.pend := rfl
@[simp] theorem setPrevNode_head (s : State) (p : Option Nat) : (setPrevNode p s).head = s.head := rfl
@[simp] theorem setPrevNode_prev (s : State) (p : Option Nat) : (setPrevNode p s).prev = s.prev := rfl
@[simp] theorem setPrevNode_outw (s : State) (p : Option Nat) : (setPrevNode p s).outw = s.outw := rfl
@[simp] theorem setPrevNode_cyc (s : State) (p : Option Nat) : (setPrevNode p s).cyc = s.cyc := rfl
@[simp] theorem setPrevNode_div (s : State) (p : Option Nat) : (setPrevNode p s).div = s.div := rfl
@[simp] theorem setPrevNode_skip (s : State) (p : Option Nat) : (setPrevNode p s).skip = s.skip := rfl
@[simp] theorem setPrevNode_armed (s : State) (p : Option Nat) : (setPrevNode p s).armed = s.armed := rfl
@[simp] theorem setPrevNode_halted (s : State) (p : Option Nat) : (setPrevNode p s).halted = s.halted := rfl
@[simp] theorem setPrevNode_err (s : State) (p : Option Nat) : (setPrevNode p s).err = s.err := rfl
@[simp] theorem setPrevNode_scratch (s : State) (p : Option Nat) : (setPrevNode p s).scratch = { s.scratch with prevNode := p } := rfl
@[simp] theorem setPrevNode_inbox (s : State) (p : Option Nat) : (setPrevNode p s).inbox = s.inbox := rfl
@[simp] theorem setPrevNode_outbox (s : State) (p : Option Nat) : (setPrevNode p s).outbox = s.outbox := rfl
@[simp] theorem setPrevNode_draws (s : State) (p : Option Nat) : (setPrevNode p s).draws = s.draws := rfl

/-! ### beginScan -/

@[simp] theorem beginScan_params (s : State) (rx : Sample) : (beginScan rx s).params = s.params := rfl
@[simp] theorem beginScan_descs (s : State) (rx : Sample) : (beginScan rx s).descs = s.descs := rfl
@[simp] theorem beginScan_reg (s : State) (rx : Sample) : (beginScan rx s).reg = s.reg := rfl
@[simp] theorem beginScan_pend (s : State) (rx : Sample) : (beginScan rx s).pend = s.pend := rfl
@[simp] theorem beginScan_head (s : State) (rx : Sample) : (beginScan rx s).head = s.head := rfl
@[simp] theorem beginScan_prev (s : State) (rx : Sample) : (beginScan rx s).prev = s.prev := rfl
@[simp] theorem beginScan_outw (s : State) (rx : Sample) : (beginScan rx s).outw = s.outw := rfl
@[simp] theorem beginScan_cyc (s : State) (rx : Sample) : (beginScan rx s).cyc = s.cyc := rfl
@[simp] theorem beginScan_div (s : State) (rx : Sample) : (beginScan rx s).div = s.div := rfl
@[simp] theorem beginScan_skip (s : State) (rx : Sample) : (beginScan rx s).skip = s.skip := rfl
@[simp] theorem beginScan_armed (s : State) (rx : Sample) : (beginScan rx s).armed = s.armed := rfl
@[simp] theorem beginScan_halted (s : State) (rx : Sample) : (beginScan rx s).halted = s.halted := rfl
@[simp] theorem beginScan_err (s : State) (rx : Sample) : (beginScan rx s).err = s.err := rfl
@[simp] theorem beginScan_scratch (s : State) (rx : Sample) : (beginScan rx s).scratch = { work := changedWord s.prev rx, rx := rx, prevNode := none } := rfl
@[simp] theorem beginScan_inbox (s : State) (rx : Sample) : (beginScan rx s).inbox = s.inbox := rfl
@[simp] theorem beginScan_outbox (s : State) (rx : Sample) : (beginScan rx s).outbox = s.outbox := rfl
@[simp] theorem beginScan_draws (s : State) (rx : Sample) : (beginScan rx s).draws = s.draws := rfl

/-! ### endScan -/

@[simp] theorem endScan_params (s : State) : (endScan s).params = s.params := rfl
@[simp] theorem endScan_descs (s : State) : (endScan s).descs = s.descs := rfl
@[simp] theorem endScan_reg (s : State) : (endScan s).reg = s.reg := rfl
@[simp] theorem endScan_pend (s : State) : (endScan s).pend = s.pend := rfl
@[simp] theorem endScan_head (s : State) : (endScan s).head = s.head := rfl
@[simp] theorem endScan_prev (s : State) : (endScan s).prev = s.prev := rfl
@[simp] theorem endScan_outw (s : State) : (endScan s).outw = s.outw := rfl
@[simp] theorem endScan_cyc (s : State) : (endScan s).cyc = s.cyc := rfl
@[simp] theorem endScan_div (s : State) : (endScan s).div = s.div := rfl
@[simp] theorem endScan_skip (s : State) : (endScan s).skip = s.skip := rfl
@[simp] theorem endScan_armed (s : State) : (endScan s).armed = s.armed := rfl
@[simp] theorem endScan_halted (s : State) : (endScan s).halted = s.halted := rfl
@[simp] theorem endScan_err (s : State) : (endScan s).err = s.err := rfl
@[simp] theorem endScan_scratch (s : State) : (endScan s).scratch = Scratch.idle := rfl
@[simp] theorem endScan_inbox (s : State) : (endScan s).inbox = s.inbox := rfl
@[simp] theorem endScan_outbox (s : State) : (endScan s).outbox = s.outbox := rfl
@[simp] theorem endScan_draws (s : State) : (endScan s).draws = s.draws := rfl

/-! ### discard -/

@[simp] theorem discard_params (s : State) : (discard s).params = s.params := rfl
@[simp] theorem discard_descs (s : State) : (discard s).descs = s.descs := rfl
@[simp] theorem discard_reg (s : State) : (discard s).reg = s.reg := rfl
@[simp] theorem discard_pend (s : State) : (discard s).pend = s.pend := rfl
@[simp] theorem discard_head (s : State) : (discard s).head = s.head := rfl
@[simp] theorem discard_prev (s : State) : (discard s).prev = s.prev := rfl
@[simp] theorem discard_outw (s : State) : (discard s).outw = s.outw := rfl
@[simp] theorem discard_cyc (s : State) : (discard s).cyc = s.cyc := rfl
@[simp] theorem discard_div (s : State) : (discard s).div = s.div := rfl
@[simp] theorem discard_skip (s : State) : (discard s).skip = s.skip - 1 := rfl
@[simp] theorem discard_armed (s : State) : (discard s).armed = s.armed := rfl
@[simp] theorem discard_halted (s : State) : (discard s).halted = s.halted := rfl
@[simp] theorem discard_err (s : State) : (discard s).err = s.err := rfl
@[simp] theorem discard_scratch (s : State) : (discard s).scratch = s.scratch := rfl
@[simp] theorem discard_inbox (s : State) : (discard s).inbox = s.inbox := rfl
@[simp] theorem discard_outbox (s : State) : (discard s).outbox = s.outbox := rfl
@[simp] theorem discard_draws (s : State) : (discard s).draws = s.draws := rfl

/-! ### Updates of one descriptor, as `modDesc` -/

@[simp] theorem setRaw_eq (h : Nat) (v : BitVec 2) (s : State) :
    setRaw h v s = s.modDesc h fun d => { d with raw := v } := rfl

@[simp] theorem commit_eq (h : Nat) (v : BitVec 2) (s : State) :
    commit h v s = s.modDesc h fun d => { d with debounced := v } := rfl

@[simp] theorem setMachine_eq (h : Nat) (m : MachineState) (s : State) :
    setMachine h m s = s.modDesc h fun d => { d with machineState := m } := rfl

@[simp] theorem loadOpening_eq (h : Nat) (s : State) :
    loadOpening h s = s.modDesc h fun d => { d with countdown := d.durationOpening } := rfl

@[simp] theorem loadClosing_eq (h : Nat) (s : State) :
    loadClosing h s = s.modDesc h fun d => { d with countdown := d.durationClosing } := rfl

@[simp] theorem setNext_eq (h : Nat) (n : Option Nat) (s : State) :
    setNext h n s = s.modDesc h fun d => { d with next := n } := rfl

@[simp] theorem decrement_eq (h : Nat) (s : State) :
    decrement h s = s.modDesc h fun d => { d with countdown := d.countdown - 1#16 } := rfl

@[simp] theorem issueTransfer_eq (s : State) : issueTransfer s = s.emit (.issue s.outw) := rfl

@[simp] theorem respond_eq (v : Word) (s : State) : respond v s = s.emit (.response v) := rfl

theorem adsInsert_eq (h : Nat) (s : State) :
    adsInsert h s = { s.modDesc h (fun d => { d with next := s.head }) with head := some h } := rfl

theorem ndesc_eq (s : State) : s.ndesc = s.descs.length := rfl

theorem nSlots_eq (s : State) : s.nSlots = s.reg.length := rfl

end Sys2Proof.Machine
end

