-- ==== Sys2Proof/Laws/Ops.lean ====
section
/-!
SUPPORT. What each shared operation can do, said once: reads after writes, NOTIFY, the ADS links, the halt, and the
ends of an operation.
-/

namespace Sys2Proof.Machine

open Sys2Proof

/-! ### Descriptors -/

theorem modDesc_getElem? (s : State) (h k : Nat) (f : Descriptor → Descriptor) :
    (s.modDesc h f).descs[k]? = if h = k then s.descs[k]?.map f else s.descs[k]? := by
  simp only [modDesc_descs, List.getElem?_modify]
  split <;> simp

theorem modDesc_same {s : State} {h : Nat} {d : Descriptor} (f : Descriptor → Descriptor)
    (hd : s.descs[h]? = some d) : (s.modDesc h f).descs[h]? = some (f d) := by
  simp [hd]

theorem modDesc_other {s : State} {h k : Nat} (f : Descriptor → Descriptor) (hk : h ≠ k) :
    (s.modDesc h f).descs[k]? = s.descs[k]? := by
  simp [hk]

@[simp] theorem modDesc_length (s : State) (h : Nat) (f : Descriptor → Descriptor) :
    (s.modDesc h f).descs.length = s.descs.length := by simp

theorem modDesc_modDesc (s : State) (h : Nat) (f g : Descriptor → Descriptor) :
    (s.modDesc h f).modDesc h g = s.modDesc h (g ∘ f) := by
  simp [State.modDesc, List.modify_modify_eq]

theorem modDesc_eq_set {s : State} {h : Nat} {d : Descriptor} (f : Descriptor → Descriptor)
    (hd : s.descs[h]? = some d) : s.modDesc h f = { s with descs := s.descs.set h (f d) } := by
  obtain ⟨hlt, rfl⟩ := List.getElem?_eq_some_iff.mp hd
  simp [State.modDesc, List.modify_eq_set_getElem?, hd]

/-! ### Pending words -/

@[simp] theorem pendOf_setPend_same (s : State) (c : BitVec 4) (v : Word) : (s.setPend c v).pendOf c = v := by
  simp [State.pendOf]

theorem pendOf_setPend_other (s : State) {b c : BitVec 4} (v : Word) (hbc : c ≠ b) :
    (s.setPend c v).pendOf b = s.pendOf b := by
  have : c.toNat ≠ b.toNat := fun e => hbc (BitVec.eq_of_toNat_eq e)
  simp [State.pendOf, this]

@[simp] theorem pendOf_modDesc (s : State) (h : Nat) (f : Descriptor → Descriptor) (c : BitVec 4) :
    (s.modDesc h f).pendOf c = s.pendOf c := rfl

@[simp] theorem pendOf_emit (s : State) (o : Output) (c : BitVec 4) : (s.emit o).pendOf c = s.pendOf c := rfl

/-! ### NOTIFY -/

theorem notify_some {s : State} {h : Nat} {d : Descriptor} (hd : s.descs[h]? = some d) :
    notify h s = s.setPend d.consumer (s.pendOf d.consumer ||| d.notifyValue) := by
  simp [notify, hd]

theorem notify_none {s : State} {h : Nat} (hd : s.descs[h]? = none) : notify h s = s := by simp [notify, hd]

/-- NOTIFY writes PEND and nothing else. -/
theorem notify_frame (h : Nat) (s : State) : notify h s = { s with pend := (notify h s).pend } := by
  cases hd : s.descs[h]? with
  | none => rw [notify_none hd]
  | some d => rw [notify_some hd]; rfl

@[simp] theorem notify_descs (h : Nat) (s : State) : (notify h s).descs = s.descs := by rw [notify_frame]

/-- NOTIFY reads the configuration of its descriptor only, so it commutes with an update of the other fields. -/
theorem notify_modDesc (h : Nat) (s : State) (f : Descriptor → Descriptor)
    (hf : ∀ d, (f d).consumer = d.consumer ∧ (f d).notifyValue = d.notifyValue) :
    notify h (s.modDesc h f) = (notify h s).modDesc h f := by
  cases hd : s.descs[h]? with
  | none =>
    have : (s.modDesc h f).descs[h]? = none := by simp [hd]
    rw [notify_none this, notify_none hd]
  | some d =>
    rw [notify_some (modDesc_same f hd), notify_some hd, (hf d).1, (hf d).2]
    rfl

/-- NOTIFY only ever sets bits (R222). -/
theorem notify_pendOf_or (h : Nat) (s : State) (c : BitVec 4) :
    s.pendOf c ||| (notify h s).pendOf c = (notify h s).pendOf c := by
  cases hd : s.descs[h]? with
  | none => simp [notify_none hd]
  | some d =>
    rw [notify_some hd]
    by_cases hc : d.consumer = c
    · subst hc; rw [pendOf_setPend_same, ← BitVec.or_assoc, BitVec.or_self]
    · rw [pendOf_setPend_other _ _ hc, BitVec.or_self]

/-! ### The halt and the ends of an operation -/

theorem raiseFatal_running {s : State} (code : FatalCode) (hh : s.halted = false) :
    raiseFatal code s = { s with halted := true, err := code.code } := by simp [raiseFatal, hh]

theorem whileRunning_running {s : State} {k : Host.Outcome State Fault Refusal} (hh : s.halted = false) :
    whileRunning s k = k := by simp [whileRunning, hh]

theorem whileRunning_halted {s : State} {k : Host.Outcome State Fault Refusal} (hh : s.halted = true) :
    whileRunning s k = .fault .halted := by simp [whileRunning, hh]

theorem whileRunning_next {s t : State} {k : Host.Outcome State Fault Refusal} :
    whileRunning s k = .next t ↔ s.halted = false ∧ k = .next t := by
  cases hh : s.halted <;> simp [whileRunning, hh]

theorem finish_next {s t : State} {r : Except Abort State} :
    finish s r = .next t ↔ r = .ok t ∨ ∃ code, r = .error (.fatal code) ∧ t = raiseFatal code s := by
  rcases r with (code | f | x) | u <;> simp [finish, eq_comm]

end Sys2Proof.Machine
end

