-- ==== Sys2Proof/Laws/PerInstr.lean ====
section
/-!
SUPPORT. One statement made of every operation as syntax: its encoding is a frame of its format (30_encoding.md R81),
and a packet's length is the one R89 gives its `op`.
-/

namespace Sys2Proof.Laws

open Sys2Proof

theorem headerOp_encodeHeader (op c : BitVec 4) (m k : BitVec 1) (h : BitVec 8) :
    headerOp (encodeHeader op c m k h) = op := by
  ext i hi
  simp only [headerOp, encodeHeader, BitVec.getElem_extractLsb', BitVec.getLsbD_append]
  simp [show ¬ 28 + i < 8 by omega, show ¬ 28 + i - 8 < 8 by omega, show ¬ 28 + i - 8 - 8 < 1 by omega,
    show ¬ 28 + i - 8 - 8 - 1 < 1 by omega, show ¬ 28 + i - 8 - 8 - 1 - 1 < 6 by omega,
    show ¬ 28 + i - 8 - 8 - 1 - 1 - 6 < 4 by omega, show 28 + i - 8 - 8 - 1 - 1 - 6 - 4 = i by omega, BitVec.getLsbD_eq_getElem hi]

namespace EncodedFormat

/-- The encoding of an operation is in the operation's format (R81), and where it is a packet its length is the one that
R89 gives the `op` of its header. -/
def Statement (i : Instr) : Prop :=
  (encode i).format = i.format ∧
    ∀ ws, encode i = .cmd ws → ∃ w rest, ws = w :: rest ∧ packetWords (headerOp w) = some ws.length

theorem reset : Statement .reset := ⟨rfl, fun _ h => nomatch h⟩

theorem register (c : BitVec 4) (nv mp ms : Word) (kind : Kind) (mode : Mode) (dc dop : Ticks) : Statement (.register c nv mp ms kind mode dc dop) := by
  refine ⟨rfl, fun ws h => ?_⟩
  cases h
  exact ⟨_, _, rfl, by rw [headerOp_encodeHeader]; rfl⟩

theorem start : Statement .start := by
  refine ⟨rfl, fun ws h => ?_⟩
  cases h
  exact ⟨_, _, rfl, by rw [headerOp_encodeHeader]; rfl⟩

theorem setout (w : Sample) : Statement (.setout w) := by
  refine ⟨rfl, fun ws h => ?_⟩
  cases h
  exact ⟨_, _, rfl, by rw [headerOp_encodeHeader]; rfl⟩

theorem rddeb (h : Nat) : Statement (.rddeb h) := by
  refine ⟨rfl, fun ws h => ?_⟩
  cases h
  exact ⟨_, _, rfl, by rw [headerOp_encodeHeader]; rfl⟩

theorem take (c : BitVec 4) : Statement (.take c) := by
  refine ⟨rfl, fun ws h => ?_⟩
  cases h
  exact ⟨_, _, rfl, by rw [headerOp_encodeHeader]; rfl⟩

theorem xferDone (rx : Sample) : Statement (.xferDone rx) := ⟨rfl, fun _ h => nomatch h⟩

theorem dispNone (pos : Nat) : Statement (.dispNone pos) := ⟨rfl, fun _ h => nomatch h⟩

theorem dispPb (pos : Nat) : Statement (.dispPb pos) := ⟨rfl, fun _ h => nomatch h⟩

theorem dispPair (pos : Nat) : Statement (.dispPair pos) := ⟨rfl, fun _ h => nomatch h⟩

theorem pbOpenInstant (h : Nat) : Statement (.pbOpenInstant h) := ⟨rfl, fun _ h => nomatch h⟩

theorem pbOpenImm (h : Nat) : Statement (.pbOpenImm h) := ⟨rfl, fun _ h => nomatch h⟩

theorem pbOpenSet (h : Nat) : Statement (.pbOpenSet h) := ⟨rfl, fun _ h => nomatch h⟩

theorem pbCloseInstant (h : Nat) : Statement (.pbCloseInstant h) := ⟨rfl, fun _ h => nomatch h⟩

theorem pbCloseImm (h : Nat) : Statement (.pbCloseImm h) := ⟨rfl, fun _ h => nomatch h⟩

theorem pbCloseSet (h : Nat) : Statement (.pbCloseSet h) := ⟨rfl, fun _ h => nomatch h⟩

theorem pbExtendOpening (h : Nat) : Statement (.pbExtendOpening h) := ⟨rfl, fun _ h => nomatch h⟩

theorem pbExtendClosing (h : Nat) : Statement (.pbExtendClosing h) := ⟨rfl, fun _ h => nomatch h⟩

theorem pbNoneClosed (h : Nat) : Statement (.pbNoneClosed h) := ⟨rfl, fun _ h => nomatch h⟩

theorem pbNoneOpen (h : Nat) : Statement (.pbNoneOpen h) := ⟨rfl, fun _ h => nomatch h⟩

theorem settleOpeningConfirmImm (h : Nat) : Statement (.settleOpeningConfirmImm h) := ⟨rfl, fun _ h => nomatch h⟩

theorem settleOpeningConfirmSet (h : Nat) : Statement (.settleOpeningConfirmSet h) := ⟨rfl, fun _ h => nomatch h⟩

theorem settleOpeningBounceImm (h : Nat) : Statement (.settleOpeningBounceImm h) := ⟨rfl, fun _ h => nomatch h⟩

theorem settleOpeningBounceSet (h : Nat) : Statement (.settleOpeningBounceSet h) := ⟨rfl, fun _ h => nomatch h⟩

theorem settleClosingConfirmImm (h : Nat) : Statement (.settleClosingConfirmImm h) := ⟨rfl, fun _ h => nomatch h⟩

theorem settleClosingConfirmSet (h : Nat) : Statement (.settleClosingConfirmSet h) := ⟨rfl, fun _ h => nomatch h⟩

theorem settleClosingBounceImm (h : Nat) : Statement (.settleClosingBounceImm h) := ⟨rfl, fun _ h => nomatch h⟩

theorem settleClosingBounceSet (h : Nat) : Statement (.settleClosingBounceSet h) := ⟨rfl, fun _ h => nomatch h⟩

theorem pairIgnore00 (h : Nat) : Statement (.pairIgnore00 h) := ⟨rfl, fun _ h => nomatch h⟩

theorem pairIgnore11 (h : Nat) : Statement (.pairIgnore11 h) := ⟨rfl, fun _ h => nomatch h⟩

theorem pairCommit01 (h : Nat) : Statement (.pairCommit01 h) := ⟨rfl, fun _ h => nomatch h⟩

theorem pairSame01 (h : Nat) : Statement (.pairSame01 h) := ⟨rfl, fun _ h => nomatch h⟩

theorem pairCommit10 (h : Nat) : Statement (.pairCommit10 h) := ⟨rfl, fun _ h => nomatch h⟩

theorem pairSame10 (h : Nat) : Statement (.pairSame10 h) := ⟨rfl, fun _ h => nomatch h⟩

theorem tickHold (h : Nat) : Statement (.tickHold h) := ⟨rfl, fun _ h => nomatch h⟩

theorem tickExpire (h : Nat) : Statement (.tickExpire h) := ⟨rfl, fun _ h => nomatch h⟩

end EncodedFormat

end Sys2Proof.Laws
end

