-- ==== Sys2Proof/Laws/Setup.lean ====
section
/-!
SUPPORT. What the checks of REGISTER come to: masks of one bit, range, occupancy, and what it does for each kind once
its masks are well-formed.
-/

namespace Sys2Proof.Machine

open Sys2Proof

/-! ### Masks (R113, R153) -/

/-- "For a mask with exactly one bit set the two agree" (R113). -/
theorem scan_one_bit (dir : ScanDir) {p : Nat} (hp : p < 32) : scan dir (1#32 <<< p) = some p := by
  have h : ∀ q < 32, bscanLs (1#32 <<< q) = some q ∧ bscanMs (1#32 <<< q) = some q := by decide
  cases dir
  · exact (h p hp).1
  · exact (h p hp).2

theorem severalBits_one_bit {p : Nat} (hp : p < 32) : severalBits (1#32 <<< p) = false := by
  have h : ∀ q < 32, severalBits (1#32 <<< q) = false := by decide
  exact h p hp

theorem one_bit_ne_zero {p : Nat} (hp : p < 32) : 1#32 <<< p ≠ 0#32 := by
  have h : ∀ q < 32, 1#32 <<< q ≠ 0#32 := by decide
  exact h p hp

theorem severalBits_iff (m : Word) : severalBits m = true ↔ 1 < popcount m := by simp [severalBits]

theorem severalBits_iff_not_atMostOneBit (m : Word) : severalBits m = true ↔ ¬ AtMostOneBit m := by
  rw [severalBits_iff, popcount, List.countP_eq_length_filter]
  constructor
  · intro h hu
    have hn : ((List.range 32).filter fun i => m.getLsbD i).Nodup := List.nodup_range.filter _
    generalize hl : (List.range 32).filter (fun i => m.getLsbD i) = l at h hn
    match l, h with
    | a :: b :: t, _ =>
      have ha : a ∈ (List.range 32).filter (fun i => m.getLsbD i) := by simp [hl]
      have hb : b ∈ (List.range 32).filter (fun i => m.getLsbD i) := by simp [hl]
      simp only [List.mem_filter] at ha hb
      simp [hu a b ha.2 hb.2] at hn
    | [_], h => simp at h
    | [], h => simp at h
  · intro h
    simp only [AtMostOneBit, not_forall] at h
    obtain ⟨i, j, hi, hj, hij⟩ := h
    have lt_of_set : ∀ k, m.getLsbD k = true → k < 32 := fun k hk => by
      by_contra hx
      simp [BitVec.getLsbD_of_ge _ _ (Nat.le_of_not_lt hx)] at hk
    have hsub : [i, j].Subperm ((List.range 32).filter fun i => m.getLsbD i) := by
      refine List.subperm_of_subset (by simp [hij]) fun x hx => ?_
      simp only [List.mem_cons, List.not_mem_nil, or_false] at hx
      rcases hx with rfl | rfl <;> simp [hi, hj, lt_of_set]
    exact hsub.length_le

theorem malformedMasks_one_bit {p : Nat} (hp : p < 32) : malformedMasks (1#32 <<< p) 0#32 .pushbutton = none := by
  simp [malformedMasks, severalBits_one_bit hp]

theorem malformedMasks_two_bits {p q : Nat} (hp : p < 32) (hq : q < 32) :
    malformedMasks (1#32 <<< p) (1#32 <<< q) .pair = none := by
  simp [malformedMasks, severalBits_one_bit hp, severalBits_one_bit hq]

/-! ### Range and occupancy (R154) -/

theorem outOfRange_iff (s : State) (bp : Nat) (bs : Option Nat) :
    outOfRange s bp bs = true ↔ s.nSlots ≤ bp ∨ ∃ p, bs = some p ∧ s.nSlots ≤ p := by
  cases bs <;> simp only [outOfRange, Bool.or_eq_true, decide_eq_true_eq] <;> simp

theorem doubled_iff (s : State) (bp : Nat) (bs : Option Nat) :
    doubled s bp bs = true ↔ s.slot bp ≠ none ∨ ∃ p, bs = some p ∧ (p = bp ∨ s.slot p ≠ none) := by
  cases bs <;> simp [doubled, Option.isSome_iff_ne_none]

/-! ### REGISTER with well-formed, non-zero masks, not too late -/

theorem registerSteps_pushbutton {s : State} {p : Nat} (hp : p < 32)
    (hl : s.armed = false ∨ s.params.lateReg = .allow) (c : BitVec 4) (nv : Word) (mode : Mode) (dc dop : Ticks) :
    registerSteps c nv (1#32 <<< p) 0#32 .pushbutton mode dc dop s =
      if outOfRange s p none then .error (.fatal .bitRange)
      else if doubled s p none then .error (.fatal .dupBit)
      else .ok (respond (BitVec.ofNat 32 s.ndesc)
        (allocate (newDescriptor c nv p none .pushbutton mode dc dop) p none s)) := by
  have hn : ¬ (s.armed ∧ s.params.lateReg = .fatal) := by rcases hl with h | h <;> simp [h]
  simp [registerSteps, malformedMasks_one_bit hp, if_neg hn, zeroMasked, one_bit_ne_zero hp, maskPosition,
    scan_one_bit _ hp, secondaryPosition]

theorem registerSteps_pair {s : State} {p q : Nat} (hp : p < 32) (hq : q < 32)
    (hl : s.armed = false ∨ s.params.lateReg = .allow) (c : BitVec 4) (nv : Word) (mode : Mode) (dc dop : Ticks) :
    registerSteps c nv (1#32 <<< p) (1#32 <<< q) .pair mode dc dop s =
      if outOfRange s p (some q) then .error (.fatal .bitRange)
      else if doubled s p (some q) then .error (.fatal .dupBit)
      else .ok (respond (BitVec.ofNat 32 s.ndesc)
        (allocate (newDescriptor c nv p (some q) .pair mode dc dop) p (some q) s)) := by
  have hn : ¬ (s.armed ∧ s.params.lateReg = .fatal) := by rcases hl with h | h <;> simp [h]
  simp [registerSteps, malformedMasks_two_bits hp hq, if_neg hn, zeroMasked, one_bit_ne_zero hp, one_bit_ne_zero hq,
    maskPosition, scan_one_bit _ hp, scan_one_bit _ hq, secondaryPosition]

end Sys2Proof.Machine
end

