-- ==== Sys2Proof/Laws/Transitions.lean ====
section
/-!
SUPPORT. What the internal transitions, the events and the loops can do: when each answers, and with what.
-/

namespace Sys2Proof.Machine

open Sys2Proof

/-! ### When a transition fires on its own (R94) -/

theorem firePb_next {row : PbRow} {h : Nat} {effect : State → State} {s t : State} :
    firePb row h effect s = .next t ↔
      s.halted = false ∧ ∃ d, s.descs[h]? = some d ∧ d.kind = .pushbutton ∧ decodePbev (pbSelector d) = row ∧
        t = effect s := by
  rw [firePb, whileRunning_next]
  refine and_congr_right fun _ => ?_
  split
  · next hd => simp [hd]
  · next d hd =>
    rw [hd]
    split
    · next hs => simp [hs, eq_comm]
    · next hs => simpa [and_assoc] using fun h1 h2 => absurd ⟨h1, h2⟩ hs

theorem fireSettle_next {row : SettleRow} {h : Nat} {effect : State → State} {s t : State} :
    fireSettle row h effect s = .next t ↔
      s.halted = false ∧ ∃ d, s.descs[h]? = some d ∧ decodeSetl (settleSelector d) = some row ∧ t = effect s := by
  rw [fireSettle, whileRunning_next]
  refine and_congr_right fun _ => ?_
  split
  · next hd => simp [hd]
  · next d hd =>
    rw [hd]
    split
    · next hs => simp [hs, eq_comm]
    · next hs => simp [hs]

theorem firePair_next {row : PairRow} {h : Nat} {effect : State → State} {s t : State} :
    firePair row h effect s = .next t ↔
      s.halted = false ∧ ∃ d, s.descs[h]? = some d ∧ d.kind = .pair ∧ decodePair (pairSelector d) = row ∧
        t = effect s := by
  rw [firePair, whileRunning_next]
  refine and_congr_right fun _ => ?_
  split
  · next hd => simp [hd]
  · next d hd =>
    rw [hd]
    split
    · next hs => simp [hs, eq_comm]
    · next hs => simpa [and_assoc] using fun h1 h2 => absurd ⟨h1, h2⟩ hs

/-! ### Events -/

theorem pbEvent_some {h : Nat} {r : Bool} {s : State} {d : Descriptor} (hd : s.descs[h]? = some d) :
    pbEvent h r s = .ok (runPb (decodePbev (pbSelector { d with raw := levelCode r })) h
      (s.modDesc h fun e => { e with raw := levelCode r })) := by
  simp [pbEvent, modDesc_same _ hd, -modDesc_descs]

theorem pbEvent_ok {h : Nat} {r : Bool} {s t : State} :
    pbEvent h r s = .ok t ↔ ∃ d, s.descs[h]? = some d ∧
      t = runPb (decodePbev (pbSelector { d with raw := levelCode r })) h
        (s.modDesc h fun e => { e with raw := levelCode r }) := by
  cases hd : s.descs[h]? with
  | none => simp [pbEvent, hd]
  | some d => simp [pbEvent_some hd, eq_comm]

theorem pairEvent_some {h : Nat} {rx : Sample} {s : State} {d : Descriptor} (hd : s.descs[h]? = some d) :
    pairEvent h rx s = .ok (runPair (decodePair (pairSelector { d with raw := pairCode d rx })) h
      (s.modDesc h fun e => { e with raw := pairCode d rx })) := by
  simp [pairEvent, hd]

theorem settle_ok {h : Nat} {s t : State} :
    settle h s = .ok t ↔ ∃ d row, s.descs[h]? = some d ∧ decodeSetl (settleSelector d) = some row ∧
      t = runSettle row h s := by
  rw [settle]
  split
  · next hd => simp [hd]
  · next d hd =>
    split
    · next hs => simp [hd, hs]
    · next row hs => simp [hd, hs, eq_comm]

theorem tickExpire_ok {cur : Nat} {s t : State} :
    tickExpire cur s = .ok t ↔ ∃ d u, s.descs[cur]? = some d ∧
      settle cur (s.modDesc cur fun e => { e with countdown := 0#16 }) = .ok u ∧
      t = adsUnlink cur s.scratch.prevNode d.next u := by
  rw [tickExpire]
  split
  · next hd => simp [hd]
  · next d hd =>
    split
    · next a ha => simp [hd, ha]
    · next u hu => simp [hd, hu, eq_comm]

/-! ### The dispatch loop (R142) -/

theorem dispatchAt_ok {pos : Nat} {s t : State} :
    dispatchAt pos s = .ok t ↔ pos < s.nSlots ∧ runDisp (decodeDisp (dispSelector s pos)) pos s = .ok t := by
  rw [dispatchAt]
  split
  · next hle => simp_all
  · next hlt => simp_all

theorem dispatchLoop_done {n : Nat} {dir : ScanDir} {s : State} (hw : scan dir s.scratch.work = none) :
    dispatchLoop n dir s = .ok s := by
  cases n <;> simp [dispatchLoop, hw]

theorem dispatchLoop_pass {n pos : Nat} {dir : ScanDir} {s : State} (hw : scan dir s.scratch.work = some pos) :
    dispatchLoop (n + 1) dir s =
      match dispatchAt pos s with
      | .error a => .error a
      | .ok t => dispatchLoop n dir t := by
  cases ha : dispatchAt pos s <;> simp [dispatchLoop, hw, ha]

/-! ### The tick walk (R212) -/

theorem tickWalk_end (n : Nat) (s : State) : tickWalk n none s = .ok s := by cases n <;> rfl

theorem tickWalk_hold {n cur : Nat} {s : State} {d : Descriptor} (hd : s.descs[cur]? = some d)
    (hz : expiringBit d = false) :
    tickWalk (n + 1) (some cur) s = tickWalk n d.next (setPrevNode (some cur) (decrement cur s)) := by
  simp [tickWalk, hd, tickSelector, hz, decodeTmem, tickHold]

theorem tickWalk_expire {n cur : Nat} {s : State} {d : Descriptor} (hd : s.descs[cur]? = some d)
    (hz : expiringBit d = true) :
    tickWalk (n + 1) (some cur) s =
      match tickExpire cur s with
      | .error a => .error a
      | .ok t => tickWalk n d.next t := by
  rw [tickWalk]
  simp only [hd, tickSelector, hz]
  cases tickExpire cur s <;> rfl

/-! ### XFER_DONE and a step -/

theorem execXferDone_next {rx : Sample} {s t : State} :
    execXferDone rx s = .next t ↔ s.halted = false ∧ s.armed = true ∧
      (cycleSteps rx s = .ok t ∨
        ∃ code, cycleSteps rx s = .error (.fatal code) ∧ t = raiseFatal code (scanRangeResidue rx s)) := by
  rw [execXferDone, whileRunning_next]
  refine and_congr_right fun _ => ?_
  cases ha : s.armed with
  | false => simp
  | true =>
    rcases hc : cycleSteps rx s with (code | f | x) | u <;> simp [finish, eq_comm]

theorem cycleSteps_ok {rx : Sample} {s t : State} :
    cycleSteps rx s = .ok t ↔ ∃ u v, sampleStep rx s = .ok u ∧ countStep u = .ok v ∧ t = issueTransfer v := by
  rw [cycleSteps]
  split
  · next a ha => simp [ha]
  · next u hu =>
    split
    · next a ha => simp [hu, ha]
    · next v hv => simp [hu, hv, eq_comm]

/-- The only step without a frame leaves the state as it is; any other decodes and runs its frame. -/
theorem step_next {s t : State} :
    step s = .next t ↔ (s.inbox = [] ∧ t = s) ∨
      ∃ f rest i, s.inbox = f :: rest ∧ decode f = .ok i ∧ exec i { s with inbox := rest } = .next t := by
  rw [step]
  split
  · next hi => simp [hi, eq_comm]
  · next f rest hi =>
    split
    · next r hr => simp [hi, hr]
    · next i hd => simp [hi, hd]

end Sys2Proof.Machine
end

