-- ==== Sys2Proof/Tests/Slice0.lean ====
section
/-!
SUPPORT. Tests: the well-formedness smoke, the words of 30_encoding.md written out, one step per operation with the
results of 95_test_vectors.md, and a witness for the hypotheses of every statement (the theorems `test_meets_...`).
-/

namespace Sys2Proof.Tests

open Sys2Proof Sys2Proof.Machine

/-! ### Well-formedness -/

/-- 8-bit handles and 5-bit positions (R86, R26): the largest that fits, and one more. -/
theorem test_handle_range :
    (Instr.rddeb 255).WellFormed = true ∧ (Instr.rddeb 256).WellFormed = false ∧
    (Instr.pbOpenImm 256).WellFormed = false ∧ (Instr.settleOpeningBounceImm 256).WellFormed = false ∧
    (Instr.pairCommit01 256).WellFormed = false ∧ (Instr.tickHold 256).WellFormed = false := by decide

theorem test_position_range :
    (Instr.dispNone 31).WellFormed = true ∧ (Instr.dispNone 32).WellFormed = false ∧
    (Instr.dispPb 32).WellFormed = false ∧ (Instr.dispPair 32).WellFormed = false := by decide

/-! ### Decoding: words written out from R86 to R94 and the table of L2.4 -/

/-- What the decoder answers, without its reason for a rejection. -/
def read (f : Frame) : Option Instr :=
  match decode f with
  | .ok i => some i
  | .error _ => none

/-- The decoder's reason for a rejection. -/
def rejected (f : Frame) : Option Reject :=
  match decode f with
  | .ok _ => none
  | .error r => some r

theorem test_decode_pin_link : read .pin = some .reset ∧ read (.link 0xFFF7) = some (.xferDone 0xFFF7) := by decide

/-- The second REGISTER of L2.4: op 0001, consumer 0, mode 1; then notify_value, masks, dop:dc. -/
theorem test_decode_register :
    read (.cmd [0b00010000000000100000000000000000, 2, 0x80, 0, 0x00030001]) =
      some (.register 0 2 0x80 0 .pushbutton .settled 1 3) ∧
    read (.cmd [0x1F030000, 0x10, 0x10, 0x20, 0]) = some (.register 15 0x10 0x10 0x20 .pair .settled 0 0) := by decide

theorem test_decode_commands :
    read (.cmd [0b00100000000000000000000000000000]) = some .start ∧
    read (.cmd [0b00110000000000000000000000000000, 0x0000FFFF]) = some (.setout 0xFFFF) ∧
    read (.cmd [0b01000000000000000000000000000010]) = some (.rddeb 2) ∧
    read (.cmd [0b01011010000000000000000000000000]) = some (.take 10) := by decide

/-- The malformed words of L2.4. -/
theorem test_decode_malformed :
    rejected (.cmd [0x10040000, 0, 0, 0, 0]) = some .reservedBits ∧
    rejected (.cmd [0x10000001, 0, 0, 0, 0]) = some .reservedBits ∧
    rejected (.cmd [0x21000000]) = some .reservedBits ∧
    rejected (.cmd [0x30000000, 0x00010000]) = some .outputWordTooWide ∧
    rejected (.cmd [0x40000100]) = some .reservedBits ∧ rejected (.cmd [0x50000001]) = some .reservedBits ∧
    rejected (.cmd [0x00000000]) = some .reservedOp ∧ rejected (.cmd [0x60000000]) = some .reservedOp ∧
    rejected (.cmd [0xF0000000]) = some .reservedOp := by decide

/-- Packets of the wrong length (log 12), and a settle selector without a row. -/
theorem test_decode_lengths :
    rejected (.cmd []) = some .emptyPacket ∧ rejected (.cmd [0x30000000]) = some .truncatedPacket ∧
    rejected (.cmd [0x20000000, 0]) = some .overlongPacket ∧ rejected (.setl 0b0110 0) = some .settledSelector := by
  decide

theorem test_decode_disp :
    read (.disp 0b00 6) = some (.dispNone 6) ∧ read (.disp 0b01 6) = some (.dispNone 6) ∧
    read (.disp 0b10 3) = some (.dispPb 3) ∧ read (.disp 0b11 4) = some (.dispPair 4) := by decide

theorem test_decode_pbev :
    read (.pbev 0b00111 1) = some (.pbOpenInstant 1) ∧ read (.pbev 0b00100 1) = some (.pbOpenImm 1) ∧
    read (.pbev 0b00101 1) = some (.pbOpenSet 1) ∧ read (.pbev 0b01011 1) = some (.pbCloseInstant 1) ∧
    read (.pbev 0b01000 1) = some (.pbCloseImm 1) ∧ read (.pbev 0b01001 1) = some (.pbCloseSet 1) ∧
    read (.pbev 0b11010 1) = some (.pbExtendOpening 1) ∧ read (.pbev 0b10101 1) = some (.pbExtendClosing 1) ∧
    read (.pbev 0b00011 1) = some (.pbNoneClosed 1) ∧ read (.pbev 0b01110 1) = some (.pbNoneOpen 1) := by decide

theorem test_decode_setl :
    read (.setl 0b1110 2) = some (.settleOpeningConfirmImm 2) ∧ read (.setl 0b1111 2) = some (.settleOpeningConfirmSet 2) ∧
    read (.setl 0b1100 2) = some (.settleOpeningBounceImm 2) ∧ read (.setl 0b1101 2) = some (.settleOpeningBounceSet 2) ∧
    read (.setl 0b1000 2) = some (.settleClosingConfirmImm 2) ∧ read (.setl 0b1001 2) = some (.settleClosingConfirmSet 2) ∧
    read (.setl 0b1010 2) = some (.settleClosingBounceImm 2) ∧ read (.setl 0b1011 2) = some (.settleClosingBounceSet 2) := by
  decide

theorem test_decode_pair_tmem :
    read (.pair 0b001 2) = some (.pairIgnore00 2) ∧ read (.pair 0b110 2) = some (.pairIgnore11 2) ∧
    read (.pair 0b010 2) = some (.pairCommit01 2) ∧ read (.pair 0b011 2) = some (.pairSame01 2) ∧
    read (.pair 0b100 2) = some (.pairCommit10 2) ∧ read (.pair 0b101 2) = some (.pairSame10 2) ∧
    read (.tmem 0b0 2) = some (.tickHold 2) ∧ read (.tmem 0b1 2) = some (.tickExpire 2) := by decide

/-- Every row of the opcode table, at its letters zero, reads as its own operation in its own number of bits. -/
theorem test_table_words :
    decodeTableWord 0 0 = some .reset ∧ decodeTableWord 32 0x10000000 = some (.register 0 0 0 0 .pushbutton .immediate 0 0) ∧
    decodeTableWord 32 0x20000000 = some .start ∧ decodeTableWord 32 0x30000000 = some (.setout 0) ∧
    decodeTableWord 64 0x0000FFFF30000000 = some (.setout 0xFFFF) ∧ decodeTableWord 16 0x1234 = some (.xferDone 0x1234) ∧
    decodeTableWord 32 0x400000FF = some (.rddeb 255) ∧ decodeTableWord 32 0x5A000000 = some (.take 10) ∧
    decodeTableWord 2 0b11 = some (.dispPair 0) ∧ decodeTableWord 5 0b01000 = some (.pbCloseImm 0) ∧
    decodeTableWord 4 0b1011 = some (.settleClosingBounceSet 0) ∧ decodeTableWord 3 0b101 = some (.pairSame10 0) ∧
    decodeTableWord 1 1 = some (.tickExpire 0) := by decide

/-! ### Small states -/

/-- K = 2, nothing discarded, scanned from the least significant bit, LATE_REG = FATAL. -/
def fatalLate : Params := { kPred := 1, nDiscard := 0, scanDir := .lsf, lateReg := .fatal }

/-- The same with LATE_REG = ALLOW. -/
def allowLate : Params := { fatalLate with lateReg := .allow }

/-- A Pushbutton at position `p` with both durations 4, consumer 0 and notify_value 1. -/
def button (p : BitVec 5) (m : MachineState) (mode : Mode) (raw deb : BitVec 2) (cd : Ticks) (nx : Option Nat) :
    Descriptor where
  kind            := .pushbutton
  bitPrimary      := p
  bitSecondary    := 0
  raw             := raw
  debounced       := deb
  machineState    := m
  mode            := mode
  durationClosing := 4
  durationOpening := 4
  countdown       := cd
  consumer        := 0
  notifyValue     := 1
  next            := nx

/-- The same without debounce durations. -/
def instant (m : MachineState) (mode : Mode) (raw deb : BitVec 2) : Descriptor :=
  { button 3 m mode raw deb 0 none with durationClosing := 0, durationOpening := 0 }

/-- The Pair of program P3 at (4, 5): consumer 1, notify_value 0x10. -/
def twin (raw deb : BitVec 2) : Descriptor :=
  { button 4 .closed .immediate raw deb 0 none with
    kind := .pair, bitSecondary := 5, durationClosing := 0, durationOpening := 0, consumer := 1, notifyValue := 0x10 }

/-- An armed engine with N = 16: a Pushbutton `d` as h0 at 3, a Pair `e` as h1 at (4, 5). -/
def board (d e : Descriptor) : State :=
  { State.powerUp fatalLate 16 with
    armed := true
    descs := [d, e]
    reg   := ((List.replicate 16 none).set 3 (some 0)).set 4 (some 1) |>.set 5 (some 1) }

/-- The board with the Pushbutton `d` in debounce, alone in the set. -/
def timed (d : Descriptor) : State := { board d (twin 0 0) with head := some 0 }

/-- An engine with nothing registered, not armed. -/
def bare : State := State.powerUp fatalLate 16

/-- What an operation that completes leaves, looked at by `f`. -/
def after {α : Type} (o : Host.Outcome State Fault Refusal) (f : State → α) : Option α :=
  match o with
  | .next t => some (f t)
  | .fault _ => none
  | .refused _ => none

theorem next_of_after {α : Type} {o : Host.Outcome State Fault Refusal} {f : State → α} {a : α}
    (h : after o f = some a) : ∃ t, o = .next t ∧ f t = a := by
  cases o with
  | next t => exact ⟨t, rfl, by simpa [after] using h⟩
  | fault _ => simp [after] at h
  | refused _ => simp [after] at h

/-- What a step that stops stops with. -/
def stopped (o : Host.Outcome State Fault Refusal) : Option (Fault ⊕ Refusal) :=
  match o with
  | .next _ => none
  | .fault f => some (.inl f)
  | .refused r => some (.inr r)

/-- `state, raw, deb, cd` of a descriptor, as 95_test_vectors.md writes it, HEAD, and PEND of consumers 0 and 1. -/
structure Seen where
  machine : MachineState
  raw     : BitVec 2
  deb     : BitVec 2
  cd      : Ticks
  head    : Option Nat
  pend0   : Word
  pend1   : Word
  deriving DecidableEq, Repr

def shown (h : Nat) (s : State) : Option Seen :=
  s.descs[h]?.map fun d => ⟨d.machineState, d.raw, d.debounced, d.countdown, s.head, s.pendOf 0, s.pendOf 1⟩

/-- Descriptor `h` after an operation that completes. -/
def seen (h : Nat) (o : Host.Outcome State Fault Refusal) : Option Seen := (after o (shown h)).join

/-! ### One step per operation -/

/-- L2.11, after the halt of L2.10. -/
theorem test_reset :
    after (exec .reset { board (button 3 .closed .immediate 0 0 0 none) (twin 0 0) with halted := true, err := 3, outw := 0xA5 })
      (fun t => (t.halted, t.err, t.ndesc, t.slot 3, t.outw)) = some (false, 0, 0, none, 0) := by decide

/-- L2.4, first row. -/
theorem test_register :
    after (step { bare with inbox := [.cmd [0x10000000, 1, 8, 0, 0x00040004]] })
      (fun t => (t.outbox, t.slot 3, t.descs)) =
    some ([.response 0], some 0, [button 3 .closed .immediate 0 0 0 none]) := by decide

/-- L2.4: the second position of a Pair occupied; no slot is written. -/
theorem test_register_occupied :
    after (exec (.register 0 2 0x40 0x10 .pair .immediate 0 0) (board (button 3 .closed .immediate 0 0 0 none) (twin 0 0)))
      (fun t => (t.halted, t.err)) = some (true, 5) ∧
    after (exec (.register 0 2 0x40 0x10 .pair .immediate 0 0)
        { board (button 3 .closed .immediate 0 0 0 none) (twin 0 0) with armed := false })
      (fun t => (t.halted, t.err, t.ndesc, t.slot 6)) = some (true, 3, 2, none) := by decide

/-- R158, with the output word of P4. -/
theorem test_start :
    after (step { bare with outw := 0xA5, inbox := [.cmd [0x20000000]] }) (fun t => (t.armed, t.outbox)) =
      some (true, [.issue 0xA5]) ∧
    stopped (exec .start { bare with armed := true }) = some (.inr .secondStart) := by decide

/-- L2.9. -/
theorem test_setout : after (step { bare with inbox := [.cmd [0x30000000, 0x000000A5]] }) (·.outw) = some 0xA5 := by decide

/-- L2.9: a Pair with debounced 0b10; a handle at NDESC. -/
theorem test_rddeb :
    after (exec (.rddeb 1) (board (button 3 .closed .immediate 0 0 0 none) (twin 0 2))) (·.outbox) = some [.response 2] ∧
    stopped (exec (.rddeb 2) (board (button 3 .closed .immediate 0 0 0 none) (twin 0 2))) = some (.inr .unknownHandle) := by
  decide

/-- L2.9: TAKE 1 with PEND[2] = 0x5, PEND[1] = 0x8. -/
theorem test_take :
    after (exec (.take 1) ((bare.setPend 2 5).setPend 1 8)) (fun t => (t.outbox, t.pendOf 1, t.pendOf 2, t.wake 1, t.wake 2)) =
      some ([.response 8], 0, 5, false, true) := by decide

/-- L1.7: sample B in the steady state of an open contact. -/
theorem test_xfer_done_change :
    after (step { board (button 3 .opened .immediate 1 1 0 none) (twin 3 1) with prev := 0xFFFF, inbox := [.link 0xFFF7] })
      (fun t => (shown 0 t, t.prev, t.div, t.outbox)) =
      some (some ⟨.closing, 0, 0, 4, some 0, 1, 0⟩, 0xFFF7, 1, [.issue 0]) := by decide

/-- L1.7: the tick that settles; and, K = 2 in a tick cycle, a countdown loaded in that cycle is decremented in it
(R125, as in cycle 3 of L1.3 with its duration 4 here), an event coming before the tick. -/
theorem test_xfer_done_tick :
    after (exec (.xferDone 0x0008) { board (button 3 .closed .settled 0 0 0 none) (twin 0 0) with div := 1 })
      (fun t => (shown 0 t, t.div)) = some (some ⟨.opening, 1, 0, 3, some 0, 0, 0⟩, 0) ∧
    after (exec (.xferDone 0xFFF7) { timed (button 3 .closing .immediate 0 0 1 none) with prev := 0xFFF7, div := 1 })
      (fun t => (shown 0 t, t.div)) = some (some ⟨.closed, 0, 0, 0, none, 0, 0⟩, 0) := by decide

/-- L1.6, third pass: an unregistered bit. -/
theorem test_disp_none :
    after (exec (.dispNone 6) { bare with scratch := { Scratch.idle with work := 0xC0 } }) (·.scratch.work) = some 0x80 := by
  decide

/-- L2.3: PB h0 at 3, sample 0x0008. -/
theorem test_disp_pb :
    after (exec (.dispPb 3) { board (instant .closed .settled 0 0) (twin 0 0) with
        scratch := { Scratch.idle with work := 0x88, rx := 0x8 } })
      (fun t => (t.scratch.work, shown 0 t)) = some (0x80, some ⟨.opened, 1, 1, 0, none, 1, 0⟩) := by decide

/-- L2.3: the Pair at (4, 5), sample 0xFFEF: one event, code 0b10, both bits cleared. -/
theorem test_disp_pair :
    after (exec (.dispPair 5) { board (instant .closed .settled 0 0) (twin 1 1) with
        scratch := { Scratch.idle with work := 0x70, rx := 0xFFEF } })
      (fun t => (t.scratch.work, shown 1 t)) = some (0x40, some ⟨.closed, 2, 2, 0, none, 0, 0x10⟩) := by decide

/-- L2.5, rows 00111, 01011. -/
theorem test_pb_instant :
    seen 0 (exec (.pbOpenInstant 0) (board (instant .closed .settled 1 0) (twin 0 0))) =
      some ⟨.opened, 1, 1, 0, none, 1, 0⟩ ∧
    seen 0 (exec (.pbCloseInstant 0) (board (instant .opened .settled 0 1) (twin 0 0))) =
      some ⟨.closed, 0, 0, 0, none, 1, 0⟩ := by decide

/-- L2.5, rows 00100, 01000. -/
theorem test_pb_imm :
    seen 0 (exec (.pbOpenImm 0) (board (button 3 .closed .immediate 1 0 0 none) (twin 0 0))) =
      some ⟨.opening, 1, 1, 4, some 0, 1, 0⟩ ∧
    seen 0 (exec (.pbCloseImm 0) (board (button 3 .opened .immediate 0 1 0 none) (twin 0 0))) =
      some ⟨.closing, 0, 0, 4, some 0, 1, 0⟩ := by decide

/-- L2.5, rows 00101, 01001. -/
theorem test_pb_set :
    seen 0 (exec (.pbOpenSet 0) (board (button 3 .closed .settled 1 0 0 none) (twin 0 0))) =
      some ⟨.opening, 1, 0, 4, some 0, 0, 0⟩ ∧
    seen 0 (exec (.pbCloseSet 0) (board (button 3 .opened .settled 0 1 0 none) (twin 0 0))) =
      some ⟨.closing, 0, 1, 4, some 0, 0, 0⟩ := by decide

/-- L2.5, rows 11000 and 11101, 10001 and 10100. -/
theorem test_pb_extend :
    seen 0 (exec (.pbExtendOpening 0) (timed (button 3 .opening .immediate 0 1 2 none))) =
      some ⟨.opening, 0, 1, 4, some 0, 0, 0⟩ ∧
    seen 0 (exec (.pbExtendOpening 0) (timed (button 3 .opening .settled 1 0 2 none))) =
      some ⟨.opening, 1, 0, 4, some 0, 0, 0⟩ ∧
    seen 0 (exec (.pbExtendClosing 0) (timed (button 3 .closing .settled 0 1 2 none))) =
      some ⟨.closing, 0, 1, 4, some 0, 0, 0⟩ ∧
    seen 0 (exec (.pbExtendClosing 0) (timed (button 3 .closing .immediate 1 0 2 none))) =
      some ⟨.closing, 1, 0, 4, some 0, 0, 0⟩ := by decide

/-- L2.5, rows 00010 and 01101; and a transition whose selector the descriptor does not show (log 9). -/
theorem test_pb_none :
    seen 0 (exec (.pbNoneClosed 0) (board (instant .closed .immediate 0 0) (twin 0 0))) =
      some ⟨.closed, 0, 0, 0, none, 0, 0⟩ ∧
    seen 0 (exec (.pbNoneOpen 0) (board (button 3 .opened .settled 1 1 0 none) (twin 0 0))) =
      some ⟨.opened, 1, 1, 0, none, 0, 0⟩ ∧
    stopped (exec (.pbNoneOpen 0) (board (instant .closed .immediate 0 0) (twin 0 0))) = some (.inl .notSelected) := by
  decide

/-- L2.6, rows 1110, 1111, 1100, 1101. -/
theorem test_settle_opening :
    seen 0 (exec (.settleOpeningConfirmImm 0) (timed (button 3 .opening .immediate 1 1 0 none))) =
      some ⟨.opened, 1, 1, 0, some 0, 0, 0⟩ ∧
    seen 0 (exec (.settleOpeningConfirmSet 0) (timed (button 3 .opening .settled 1 0 0 none))) =
      some ⟨.opened, 1, 1, 0, some 0, 1, 0⟩ ∧
    seen 0 (exec (.settleOpeningBounceImm 0) (timed (button 3 .opening .immediate 0 1 0 none))) =
      some ⟨.closed, 0, 0, 0, some 0, 1, 0⟩ ∧
    seen 0 (exec (.settleOpeningBounceSet 0) (timed (button 3 .opening .settled 0 0 0 none))) =
      some ⟨.closed, 0, 0, 0, some 0, 0, 0⟩ := by decide

/-- L2.6, rows 1000, 1001, 1010, 1011. -/
theorem test_settle_closing :
    seen 0 (exec (.settleClosingConfirmImm 0) (timed (button 3 .closing .immediate 0 0 0 none))) =
      some ⟨.closed, 0, 0, 0, some 0, 0, 0⟩ ∧
    seen 0 (exec (.settleClosingConfirmSet 0) (timed (button 3 .closing .settled 0 1 0 none))) =
      some ⟨.closed, 0, 0, 0, some 0, 1, 0⟩ ∧
    seen 0 (exec (.settleClosingBounceImm 0) (timed (button 3 .closing .immediate 1 0 0 none))) =
      some ⟨.opened, 1, 1, 0, some 0, 1, 0⟩ ∧
    seen 0 (exec (.settleClosingBounceSet 0) (timed (button 3 .closing .settled 1 1 0 none))) =
      some ⟨.opened, 1, 1, 0, some 0, 0, 0⟩ := by decide

/-- L2.7, rows 000, 110. -/
theorem test_pair_ignore :
    seen 1 (exec (.pairIgnore00 1) (board (instant .closed .settled 0 0) (twin 0 1))) =
      some ⟨.closed, 0, 1, 0, none, 0, 0⟩ ∧
    seen 1 (exec (.pairIgnore11 1) (board (instant .closed .settled 0 0) (twin 3 2))) =
      some ⟨.closed, 3, 2, 0, none, 0, 0⟩ := by decide

/-- L2.7, rows 010, 011, 100, 101. -/
theorem test_pair_definite :
    seen 1 (exec (.pairCommit01 1) (board (instant .closed .settled 0 0) (twin 1 2))) =
      some ⟨.closed, 1, 1, 0, none, 0, 0x10⟩ ∧
    seen 1 (exec (.pairSame01 1) (board (instant .closed .settled 0 0) (twin 1 1))) =
      some ⟨.closed, 1, 1, 0, none, 0, 0⟩ ∧
    seen 1 (exec (.pairCommit10 1) (board (instant .closed .settled 0 0) (twin 2 0))) =
      some ⟨.closed, 2, 2, 0, none, 0, 0x10⟩ ∧
    seen 1 (exec (.pairSame10 1) (board (instant .closed .settled 0 0) (twin 2 2))) =
      some ⟨.closed, 2, 2, 0, none, 0, 0⟩ := by decide

/-- L2.8: (6), (65535). -/
theorem test_tick_hold :
    seen 0 (exec (.tickHold 0) (timed (button 3 .opening .immediate 1 1 65535 none))) =
      some ⟨.opening, 1, 1, 65534, some 0, 0, 0⟩ := by decide

/-- L2.8: (4, 7, 1), (1, 2, 1): the third member, after the second was held. -/
theorem test_tick_expire :
    after (exec (.tickExpire 2) { bare with
        descs := [button 0 .opening .settled 1 0 4 none, button 1 .opening .settled 1 0 1 (some 2),
          button 2 .opening .settled 1 0 1 (some 0)]
        head := some 1
        scratch := { Scratch.idle with prevNode := some 1 } })
      (fun t => (t.head, t.descs.map (·.next), shown 2 t)) =
    some (some 1, [none, some 0, none], some ⟨.opened, 1, 1, 0, some 1, 1, 0⟩) := by decide

/-- The word of every row runs as the first step after reset, where reset enables its operation. -/
theorem test_first_step :
    after (step (State.reset.withFetchWord 0 0)) (·.armed) = some false ∧
    after (step (State.reset.withFetchWord 32 0x10000000)) (·.err) = some 1 ∧
    after (step (State.reset.withFetchWord 32 0x20000000)) (·.armed) = some true ∧
    after (step (State.reset.withFetchWord 64 0x0000000130000000)) (·.outw) = some 1 ∧
    after (step (State.reset.withFetchWord 32 0x50000000)) (·.outbox) = some [.response 0] ∧
    after (step (State.reset.withFetchWord 2 0)) (·.halted) = some false ∧
    stopped (step (State.reset.withFetchWord 16 0)) = some (.inl .noTransfer) := by decide

/-! ### States that meet the invariants -/

/-- An armed engine with `n` slots and last sample `prev`: h0 at 3 Closing with countdown `cd`, h1 at 7 Opening, both
Immediate, and a Pair at (4, 5); the set is (0, 1). -/
def busy (n : Nat) (div : Nat) (cd : Ticks) : State :=
  { State.powerUp fatalLate n with
    armed := true
    div   := div
    prev  := 0x0090
    descs := [button 3 .closing .immediate 0 0 cd (some 1), button 7 .opening .immediate 1 1 2 none, twin 1 1]
    reg   := [none, none, none, some 0, some 2, some 2, none, some 1] ++ List.replicate (n - 8) none
    head  := some 0 }

/-- A statement about every descriptor of three is three statements. -/
theorem of_three {a b c : Descriptor} {P : Nat → Descriptor → Prop} (ha : P 0 a) (hb : P 1 b) (hc : P 2 c) :
    ∀ (h : Nat) (d : Descriptor), [a, b, c][h]? = some d → P h d := by
  intro h d hd
  match h with
  | 0 => simp at hd; exact hd ▸ ha
  | 1 => simp at hd; exact hd ▸ hb
  | 2 => simp at hd; exact hd ▸ hc
  | n + 3 => simp at hd

theorem busy_slot (n div : Nat) (cd : Ticks) (p h : Nat) :
    (busy n div cd).slot p = some h ↔ p = 3 ∧ h = 0 ∨ p = 4 ∧ h = 2 ∨ p = 5 ∧ h = 2 ∨ p = 7 ∧ h = 1 := by
  by_cases hp : p < 8
  · interval_cases p <;> simp [State.slot, busy, eq_comm]
  · have hn : (busy n div cd).slot p = none := by
      obtain ⟨k, rfl⟩ := Nat.exists_eq_add_of_le' (show 8 ≤ p by omega)
      simp [State.slot, busy, List.getElem?_replicate]
      split <;> rfl
    rw [hn]
    constructor
    · intro hc; cases hc
    · intro hc; omega

theorem busy_registry (n div : Nat) (cd : Ticks) (h8 : 8 ≤ n) (h32 : n ≤ 32) : (busy n div cd).RegistryInv where
  slots_le := by simp [State.nSlots, busy]; omega
  owner p h := by
    rw [busy_slot]
    match h with
    | 0 => simp [busy, Descriptor.Owns, button]
    | 1 => simp [busy, Descriptor.Owns, button]
    | 2 => simp [busy, Descriptor.Owns, button, twin]
    | k + 3 => simp [busy]
  in_range h d p hd ho := by
    have hlt : p < 8 := by
      refine of_three (P := fun _ d => d.Owns p → p < 8) ?_ ?_ ?_ h d hd ho <;>
        simp [Descriptor.Owns, button, twin] <;> omega
    simp [State.nSlots, busy]; omega
  distinct := of_three (fun h => by cases h) (by decide) (by decide)
  secondary := of_three (fun _ => rfl) (by decide) (by decide)

/-- A Pushbutton of `busy` meets (c), (d) and R27 for a countdown of its range. -/
theorem closing_sound (cd : Ticks) (nx : Option Nat) (h1 : 1#16 ≤ cd) (h4 : cd ≤ 4#16) :
    (button 3 .closing .immediate 0 0 cd nx).Sound where
  closed _ h := by cases h
  opened _ h := by cases h
  opening _ h := by cases h
  closing _ _ := ⟨(by decide : (4#16 : Ticks) ≠ 0#16), h1, h4, rfl⟩
  pairCode h := by cases h
  pairState h := by cases h
  level _ := .inl rfl

theorem busy_inv (n div : Nat) (cd : Ticks) (h8 : 8 ≤ n) (h32 : n ≤ 32) (hdiv : div < 2) (h1 : 1#16 ≤ cd)
    (h4 : cd ≤ 4#16) : (busy n div cd).Inv where
  phase := ⟨fun _ => rfl, fun h => by cases h⟩
  idle := rfl
  agents f hf := by cases hf
  running _ := {
    registry := busy_registry n div cd h8 h32
    sound := of_three (closing_sound cd _ h1 h4)
      { closed := by decide, opened := by decide, opening := by decide, closing := by decide, pairCode := by decide
        pairState := by decide, level := by decide }
      { closed := by decide, opened := by decide, opening := by decide, closing := by decide, pairCode := by decide
        pairState := by decide, level := by decide }
    ads := ⟨[0, 1], ⟨⟨rfl, _, rfl, rfl, _, rfl, rfl⟩, by decide⟩,
      of_three (by simp [Descriptor.Timing, button]) (by simp [Descriptor.Timing, button])
        (by simp [Descriptor.Timing, button, twin])⟩
    unlinked := of_three (fun h => absurd ⟨rfl, .inr rfl⟩ h) (fun h => absurd ⟨rfl, .inl rfl⟩ h) (fun _ => rfl)
    div_lt := hdiv
    skip_le := by simp [busy, State.powerUp]
    discarding := fun h => by simp [busy, State.powerUp, fatalLate] at h
    unarmed := fun h => by cases h
    tracks := fun _ => of_three (P := fun _ d => d.TracksSample 0x0090 ∧ d.AgreesSettled)
      ⟨by simp [Descriptor.TracksSample, levelCode, sampleBit, button], fun _ => ⟨fun h => (by cases h), fun h => (by cases h)⟩⟩
      ⟨by simp [Descriptor.TracksSample, levelCode, sampleBit, button], fun _ => ⟨fun h => (by cases h), fun h => (by cases h)⟩⟩
      ⟨by simp [Descriptor.TracksSample, pairCode, sampleBit, button, twin], fun h => by cases h⟩ }

/-! ### A witness for the hypotheses of every statement -/

theorem test_meets_DecodeEncodeAgree :
    (Instr.register 15 0xFFFFFFFF 0x80000000 1 .pair .settled 0xFFFF 0xFFFF).WellFormed = true ∧
    (Instr.rddeb 255).WellFormed = true ∧ (Instr.dispPair 31).WellFormed = true ∧
    (Instr.settleClosingBounceSet 255).WellFormed = true := by decide

theorem test_meets_DecodedIsWellFormed :
    read (.cmd [0x400000FF]) = some (.rddeb 255) ∧ read (.disp 0b10 31) = some (.dispPb 31) := by decide

theorem test_meets_AcceptedPacketIsItsEncoding :
    decode (.cmd [0x400000FF#32]) = .ok (.rddeb 255) ∧ decode (.cmd [0x5F000000#32]) = .ok (.take 15#4) := ⟨rfl, rfl⟩

theorem test_meets_HeaderSelectsOneRow :
    (⟨.rddeb, 0x40000000, 0xFFFFFF00⟩ : CmdRow) ∈ cmdRows ∧ (0x400000FF#32 &&& 0xFFFFFF00#32) = 0x40000000#32 := by decide

/-- Both clauses, with a reserved op at either end and a reserved bit, and the bits 16 and 31 of an output word. -/
theorem test_meets_MalformedPacketIsRefused :
    (∀ r ∈ cmdRows, 0x00000000#32 &&& r.mask ≠ r.value) ∧ (∀ r ∈ cmdRows, 0x60000000#32 &&& r.mask ≠ r.value) ∧
    (∀ r ∈ cmdRows, 0xF0000000#32 &&& r.mask ≠ r.value) ∧ (∀ r ∈ cmdRows, 0x50000001#32 &&& r.mask ≠ r.value) ∧
    (0x00010000#32).getLsbD 16 = true ∧ (0x80000000#32).getLsbD 31 = true ∧ bare.halted = false ∧
    (0x40000000#32 : Word) = 0x40#8 ++ 0#16 ++ 0x00#8 ∧ (0x400000FF#32 : Word) = 0x40#8 ++ 0#16 ++ 0xFF#8 ∧ bare.ndesc ≤ 0 ∧
    { bare with inbox := [.cmd [0x30000000#32, 0x00010000#32]] }.inbox = [.cmd (0x30000000#32 :: [0x00010000#32])] := by
  decide

theorem test_meets_StepRunsDecodedInstruction :
    { bare with inbox := [.link 7] }.inbox = [.link 7] ∧ decode (.link 7) = .ok (.xferDone 7) ∧ bare.inbox = [] :=
  ⟨rfl, rfl, rfl⟩

theorem test_meets_NothingButResetInHalt :
    { bare with halted := true }.halted = true ∧ Instr.start ≠ .reset ∧ bare.halted = false ∧ bare.armed = false := by
  decide

theorem test_meets_ResetKeepsTheHostsSide : ∃ t, exec .reset bare = .next t ∧ t.armed = false :=
  next_of_after (f := State.armed) (by decide)

/-- The first and last slot of N = 16, position 31 of N = 32, and an armed engine with LATE_REG = ALLOW. -/
theorem test_meets_RegisterAllocates :
    bare.halted = false ∧ bare.armed = false ∧ bare.reg[0]? = some none ∧ bare.reg[15]? = some none ∧ (15 : Nat) ≠ 0 ∧
    (State.powerUp fatalLate 32).reg[31]? = some none ∧
    { bare with params := allowLate, armed := true }.params.lateReg = .allow := by decide

theorem one_bit (p : Nat) : AtMostOneBit (1#32 <<< p) := by
  intro i j hi hj
  simp at hi hj
  omega

theorem no_bit : AtMostOneBit 0#32 := by
  intro i j hi
  simp at hi

/-- Each kind of malformed mask; a zero primary mask, a Pair's zero secondary mask; armed with LATE_REG = ALLOW too. -/
theorem test_meets_MasksAreChecked :
    bare.halted = false ∧ (1#32 : Word) ≠ 0#32 ∧ ¬ AtMostOneBit 0x18#32 ∧ ¬ AtMostOneBit 0x80000001#32 ∧
    bare.armed = false ∧ AtMostOneBit 0#32 ∧ AtMostOneBit (1#32 <<< 4) ∧
    (Kind.pair = .pushbutton → (0#32 : Word) = 0#32) ∧ { bare with params := allowLate, armed := true }.params.lateReg = .allow :=
  ⟨rfl, by decide, fun h => absurd (h 3 4 (by decide) (by decide)) (by decide),
    fun h => absurd (h 0 31 (by decide) (by decide)) (by decide), rfl, no_bit, one_bit 4, fun h => (by cases h), rfl⟩

theorem test_meets_LateRegistration :
    { bare with armed := true }.halted = false ∧ AtMostOneBit (1#32 <<< 3) ∧ AtMostOneBit (1#32 <<< 31) ∧ AtMostOneBit 0#32 ∧
    { bare with armed := true }.armed = true ∧ { bare with armed := true }.params.lateReg = .fatal ∧
    { bare with params := allowLate, armed := true }.params.lateReg = .allow :=
  ⟨rfl, one_bit 3, one_bit 31, no_bit, rfl, rfl, rfl⟩

/-- Positions 16 and 31 of N = 16, position 15 below it; an occupied slot, a free one, two positions equal. -/
theorem test_meets_RangeAndOccupancyAreChecked :
    let s := { board (instant .closed .settled 0 0) (twin 0 0) with armed := false }
    s.halted = false ∧ s.armed = false ∧ s.nSlots ≤ 16 ∧ s.nSlots ≤ 31 ∧ 15 < s.nSlots ∧ s.slot 3 ≠ none ∧ s.slot 5 ≠ none ∧
    s.slot 15 = none := by decide

theorem test_meets_ArenaCannotOverflow : (busy 16 0 1).RegistryInv ∧ (busy 32 0 1).RegistryInv :=
  ⟨busy_registry 16 0 1 (by decide) (by decide), busy_registry 32 0 1 (by decide) (by decide)⟩

theorem test_meets_StartIssuesFirstTransfer :
    bare.halted = false ∧ bare.armed = false ∧ { bare with armed := true }.halted = false ∧
    { bare with armed := true }.armed = true := by decide

theorem test_meets_SetoutWritesOutputWord : bare.halted = false := by decide

theorem test_meets_RddebReturnsCommittedValue :
    (busy 16 0 1).halted = false ∧ (busy 16 0 1).descs[0]? = some (button 3 .closing .immediate 0 0 1 (some 1)) ∧
    (busy 16 0 1).ndesc ≤ 3 ∧ ¬ (busy 16 0 1).ndesc ≤ 2 := by decide

theorem test_meets_TakeReturnsAndClears : bare.halted = false ∧ (15#4 : BitVec 4) ≠ 0#4 := by decide

theorem test_meets_ScannerLaws :
    (1#32 : Word) ≠ 0#32 ∧ (0x80000000#32 : Word) ≠ 0#32 ∧ (0xFFFF#32).toNat < 2 ^ 16 := by decide

/-- The first and the last slot, both free. -/
theorem test_meets_DispNoneSkipsBit : (busy 16 0 1).halted = false ∧ (busy 16 0 1).reg[0]? = some none ∧ (busy 16 0 1).reg[15]? = some none := by
  decide

theorem test_meets_DispPbRunsOneTransition :
    (busy 16 0 1).halted = false ∧ (busy 16 0 1).reg[7]? = some (some 1) ∧
    (busy 16 0 1).descs[1]? = some (button 7 .opening .immediate 1 1 2 none) ∧
    (button 7 .opening .immediate 1 1 2 none).kind = .pushbutton := by decide

/-- From either position of the Pair. -/
theorem test_meets_DispPairRunsOneTransition :
    (busy 16 0 1).halted = false ∧ (busy 16 0 1).reg[4]? = some (some 2) ∧ (busy 16 0 1).reg[5]? = some (some 2) ∧
    (busy 16 0 1).descs[2]? = some (twin 1 1) ∧ (twin 1 1).kind = .pair := by decide

theorem test_meets_DispatchLoopEndsAtZero :
    (beginScan 0x0028 (busy 16 0 1)).RegistryInv ∧ (beginScan 0x0028 (busy 16 0 1)).scratch.work = 0x000000B8#32 ∧
    ∃ t, dispatchLoop 32 .msf (beginScan 0x0028 (busy 16 0 1)) = .ok t :=
  ⟨{ busy_registry 16 0 1 (by decide) (by decide) with }, by decide, _, rfl⟩

/-- A Pushbutton at 0 with the descriptor `d`, and nothing else. -/
def alone (d : Descriptor) : State := { bare with descs := [d] }

theorem test_meets_ZeroDurationCommitsAtOnce :
    (alone (instant .closed .settled 1 0)).halted = false ∧
    (alone (instant .closed .settled 1 0)).descs[0]? = some (instant .closed .settled 1 0) ∧
    (instant .closed .settled 1 0).raw.getLsbD 0 = true ∧ (instant .closed .settled 1 0).durationOpening = 0#16 ∧
    (instant .opened .immediate 0 1).machineState = .opened ∧ (instant .opened .immediate 0 1).raw.getLsbD 0 = false ∧
    (instant .opened .immediate 0 1).durationClosing = 0#16 := by decide

theorem test_meets_ImmediateCommitsAndStartsTimer :
    let d := button 3 .closed .immediate 1 0 0 none
    let e := button 3 .opened .immediate 0 1 0 none
    (alone d).halted = false ∧ (alone d).descs[0]? = some d ∧ (alone e).descs[0]? = some e ∧ d.kind = .pushbutton ∧
    d.mode = .immediate ∧ d.machineState = .closed ∧ d.raw.getLsbD 0 = true ∧ d.durationOpening ≠ 0#16 ∧
    e.mode = .immediate ∧ e.machineState = .opened ∧ e.raw.getLsbD 0 = false ∧ e.durationClosing ≠ 0#16 := by decide

theorem test_meets_SettledOnlyStartsTimer :
    let d := button 3 .closed .settled 1 0 0 none
    let e := button 3 .opened .settled 0 1 0 none
    (alone d).halted = false ∧ (alone d).descs[0]? = some d ∧ (alone e).descs[0]? = some e ∧ d.kind = .pushbutton ∧
    d.mode = .settled ∧ d.machineState = .closed ∧ d.raw.getLsbD 0 = true ∧ d.durationOpening ≠ 0#16 ∧
    e.mode = .settled ∧ e.machineState = .opened ∧ e.raw.getLsbD 0 = false ∧ e.durationClosing ≠ 0#16 := by decide

theorem test_meets_BounceExtendsTimer :
    let d := button 3 .opening .immediate 0 1 2 none
    let e := button 3 .closing .settled 1 1 2 none
    (alone d).halted = false ∧ (alone d).descs[0]? = some d ∧ (alone e).descs[0]? = some e ∧ d.kind = .pushbutton ∧
    e.kind = .pushbutton ∧ d.machineState = .opening ∧ e.machineState = .closing := by decide

theorem test_meets_AgreeingEventDoesNothing :
    let d := button 3 .closed .immediate 0 0 0 none
    let e := button 3 .opened .settled 1 1 0 none
    (alone d).halted = false ∧ (alone d).descs[0]? = some d ∧ (alone e).descs[0]? = some e ∧ d.kind = .pushbutton ∧
    e.kind = .pushbutton ∧ d.machineState = .closed ∧ d.raw.getLsbD 0 = false ∧ e.machineState = .opened ∧
    e.raw.getLsbD 0 = true := by decide

/-- The rows 1110, 1101, 1000, 1011 of L2.6. -/
theorem test_meets_SilentSettles :
    let a := button 3 .opening .immediate 1 1 0 none
    let b := button 3 .opening .settled 0 0 0 none
    let c := button 3 .closing .immediate 0 0 0 none
    let d := button 3 .closing .settled 1 1 0 none
    (alone a).halted = false ∧ (alone a).descs[0]? = some a ∧ (alone b).descs[0]? = some b ∧ (alone c).descs[0]? = some c ∧
    (alone d).descs[0]? = some d ∧ (a.machineState = .opening ∧ a.raw.getLsbD 0 = true ∧ a.mode = .immediate) ∧
    (b.machineState = .opening ∧ b.raw.getLsbD 0 = false ∧ b.mode = .settled) ∧
    (c.machineState = .closing ∧ c.raw.getLsbD 0 = false ∧ c.mode = .immediate) ∧
    (d.machineState = .closing ∧ d.raw.getLsbD 0 = true ∧ d.mode = .settled) := by decide

/-- The rows 1111 and 1001 of L2.6. -/
theorem test_meets_SettledConfirmCommits :
    let a := button 3 .opening .settled 1 0 0 none
    let b := button 3 .closing .settled 0 1 0 none
    (alone a).halted = false ∧ (alone a).descs[0]? = some a ∧ (alone b).descs[0]? = some b ∧
    (a.mode = .settled ∧ a.machineState = .opening ∧ a.raw.getLsbD 0 = true) ∧
    (b.mode = .settled ∧ b.machineState = .closing ∧ b.raw.getLsbD 0 = false) := by decide

/-- The rows 1100 and 1010 of L2.6. -/
theorem test_meets_ImmediateBounceIsCorrected :
    let a := button 3 .opening .immediate 0 1 0 none
    let b := button 3 .closing .immediate 1 0 0 none
    (alone a).halted = false ∧ (alone a).descs[0]? = some a ∧ (alone b).descs[0]? = some b ∧
    (a.mode = .immediate ∧ a.machineState = .opening ∧ a.raw.getLsbD 0 = false) ∧
    (b.mode = .immediate ∧ b.machineState = .closing ∧ b.raw.getLsbD 0 = true) := by decide

theorem test_meets_IndeterminateCodeIsIgnored :
    (alone (twin 0 1)).halted = false ∧ (alone (twin 0 1)).descs[0]? = some (twin 0 1) ∧
    (alone (twin 3 2)).descs[0]? = some (twin 3 2) ∧ (twin 0 1).kind = .pair ∧ (twin 0 1).raw = 0b00#2 ∧
    (twin 3 2).raw = 0b11#2 := by decide

theorem test_meets_DefiniteCodeCommitsIfNew :
    (alone (twin 1 2)).halted = false ∧ (alone (twin 1 2)).descs[0]? = some (twin 1 2) ∧ (twin 1 2).kind = .pair ∧
    ((twin 1 2).raw = 0b01#2 ∧ (twin 1 2).debounced ≠ 0b01#2) ∧ ((twin 2 0).raw = 0b10#2 ∧ (twin 2 0).debounced ≠ 0b10#2) ∧
    ((twin 1 1).raw = 0b01#2 ∧ (twin 1 1).debounced = 0b01#2) ∧ ((twin 2 2).raw = 0b10#2 ∧ (twin 2 2).debounced = 0b10#2) := by
  decide

/-- The smallest countdown that is held, and the largest. -/
theorem test_meets_TickHoldDecrements :
    (alone (button 3 .opening .immediate 1 1 2 none)).halted = false ∧
    (alone (button 3 .opening .immediate 1 1 2 none)).descs[0]? = some (button 3 .opening .immediate 1 1 2 none) ∧
    (2#16 : Ticks) ≠ 1#16 ∧ (0xFFFF#16 : Ticks) ≠ 1#16 := by decide

/-- The head of the set, and a member behind another. -/
theorem test_meets_TickExpireSettlesAndUnlinks :
    let d := button 3 .closing .immediate 0 0 1 (some 1)
    (busy 16 0 1).halted = false ∧ (busy 16 0 1).descs[0]? = some d ∧ d.countdown = 1#16 ∧ d.machineState = .closing ∧
    (busy 16 0 1).scratch.prevNode = none ∧
    { busy 16 0 1 with scratch := { Scratch.idle with prevNode := some 1 } }.scratch.prevNode = some 1 := by decide

theorem test_meets_ExactlyOneTransitionFires :
    (busy 16 0 1).halted = false ∧
    ((busy 16 0 1).descs[0]? = some (button 3 .closing .immediate 0 0 1 (some 1)) ∧
      (button 3 .closing .immediate 0 0 1 (some 1)).kind = .pushbutton ∧
      (button 3 .closing .immediate 0 0 1 (some 1)).machineState = .closing ∧ (busy 16 0 1).reg[3]? = some (some 0)) ∧
    ((busy 16 0 1).descs[2]? = some (twin 1 1) ∧ (twin 1 1).kind = .pair ∧ (busy 16 0 1).reg[15]? = some none) := by decide

theorem test_meets_StartupCycleOnlyCounts :
    let s := { State.powerUp { fatalLate with nDiscard := 2 } 16 with armed := true }
    s.halted = false ∧ s.armed = true ∧ 0 < s.skip ∧ s.head = none ∧ s.scratch = Scratch.idle := by decide

theorem test_meets_RepeatedSampleOnlyCounts :
    (busy 16 0 1).halted = false ∧ (busy 16 0 1).armed = true ∧ (busy 16 0 1).skip = 0 ∧
    (busy 16 0 1).div + 1 ≠ (busy 16 0 1).params.k ∧ (busy 16 0 1).scratch = Scratch.idle := by decide

/-- With and without a tick, N = 16 and N = 32. -/
theorem test_meets_ScanCycleRunsToItsEnd :
    (busy 16 1 1).Inv ∧ (busy 32 0 1).Inv ∧ (busy 16 1 1).halted = false ∧ (busy 16 1 1).armed = true ∧
    16 ≤ (busy 16 1 1).nSlots ∧ 16 ≤ (busy 32 0 1).nSlots :=
  ⟨busy_inv 16 1 1 (by decide) (by decide) (by decide) (by decide) (by decide),
    busy_inv 32 0 1 (by decide) (by decide) (by decide) (by decide) (by decide), rfl, rfl, by decide, by decide⟩

/-- With the sample 0x0098 bit 3, that of h0, changes, and no other; with the tick due and not due; a member and the
Pair, which is none, unchanged. -/
theorem test_meets_EveryChangeReachesItsOwnerOnce :
    (busy 16 0 1).Inv ∧ (busy 16 1 1).Inv ∧ (busy 16 0 1).halted = false ∧ (busy 16 0 1).armed = true ∧
    (busy 16 0 1).skip = 0 ∧ 16 ≤ (busy 16 0 1).nSlots ∧ (busy 16 0 1).div + 1 ≠ (busy 16 0 1).params.k ∧
    (busy 16 1 1).div + 1 = (busy 16 1 1).params.k ∧
    ((button 3 .closing .immediate 0 0 1 (some 1)).Owns 3 ∧ (busy 16 0 1).prev.getLsbD 3 ≠ (0x0098#16).getLsbD 3) ∧
    (∀ p, (button 7 .opening .immediate 1 1 2 none).Owns p → (busy 16 0 1).prev.getLsbD p = (0x0098#16).getLsbD p) ∧
    (button 7 .opening .immediate 1 1 2 none).Timing ∧
    ∀ p, (twin 1 1).Owns p → (busy 16 0 1).prev.getLsbD p = (0x0098#16).getLsbD p :=
  ⟨busy_inv 16 0 1 (by decide) (by decide) (by decide) (by decide) (by decide),
    busy_inv 16 1 1 (by decide) (by decide) (by decide) (by decide) (by decide), rfl, rfl, rfl, by decide, by decide, rfl,
    ⟨.inl rfl, by decide⟩, fun p hp => by rcases hp with rfl | ⟨h, _⟩ <;> [decide; cases h], ⟨rfl, .inl rfl⟩,
    fun p hp => by rcases hp with rfl | ⟨_, rfl⟩ <;> decide⟩

/-- An armed engine, tick due, PREV = 0, with one Pushbutton at 3 as registered, Settled, with opening duration `dur`. -/
def lone (dur : Ticks) : State :=
  { bare with
    armed := true
    div   := 1
    descs := [{ button 3 .closed .settled 0 0 0 none with durationOpening := dur }]
    reg   := (List.replicate 16 none).set 3 (some 0) }

/-- A statement about every descriptor of one is one statement. -/
theorem of_one {a : Descriptor} {P : Nat → Descriptor → Prop} (ha : P 0 a) :
    ∀ (h : Nat) (d : Descriptor), [a][h]? = some d → P h d := by
  intro h d hd
  match h with
  | 0 => simp at hd; exact hd ▸ ha
  | n + 1 => simp at hd

theorem lone_registry (dur : Ticks) : (lone dur).RegistryInv where
  slots_le := (by decide : 16 ≤ 32)
  owner p h := by
    have hs : (lone dur).slot p = some h ↔ p = 3 ∧ h = 0 := by
      by_cases hp : p = 3
      · subst hp
        simp [State.slot, lone, eq_comm]
      · simp only [State.slot, lone, List.getElem?_set_ne (Ne.symm hp), List.getElem?_replicate, hp, false_and, iff_false]
        split <;> simp
    rw [hs]
    match h with
    | 0 => simp [lone, Descriptor.Owns, button]
    | k + 1 => simp [lone]
  in_range := fun h d p hd => by
    refine of_one (P := fun _ d => d.Owns p → p < (lone dur).nSlots) ?_ h d hd
    rintro (rfl | ⟨hk, _⟩)
    · exact (by decide : 3 < 16)
    · cases hk
  distinct := of_one fun hk => by cases hk
  secondary := of_one fun _ => rfl

theorem lone_inv (dur : Ticks) : (lone dur).Inv where
  phase := ⟨fun _ => rfl, fun h => by cases h⟩
  idle := rfl
  agents f hf := by cases hf
  running _ := {
    registry := lone_registry dur
    sound := of_one
      { closed := fun _ _ => rfl, opened := fun _ h => (by cases h), opening := fun _ h => (by cases h)
        closing := fun _ h => (by cases h), pairCode := fun h => (by cases h), pairState := fun h => (by cases h)
        level := fun _ => .inl rfl }
    ads := ⟨[], ⟨rfl, by decide⟩, of_one (by simp [Descriptor.Timing, button])⟩
    unlinked := of_one fun _ => rfl
    div_lt := (by decide : 1 < 2)
    skip_le := Nat.le_refl _
    discarding := fun h => by simp [lone, bare, State.powerUp, fatalLate] at h
    unarmed := fun h => by cases h
    tracks := fun _ => of_one (P := fun _ d => d.TracksSample 0 ∧ d.AgreesSettled)
      ⟨by simp [Descriptor.TracksSample, levelCode, sampleBit, button], fun _ => ⟨fun _ => rfl, fun h => by cases h⟩⟩ }

/-- Durations 1 and 2, where the clauses meet, out of a settled state; and a bounce of h0 of `busy` in Closing. -/
theorem test_meets_TickCountsTheCountdownOfItsOwnCycle :
    ((lone 1).Inv ∧ (lone 2).Inv ∧ (lone 1).halted = false ∧ (lone 1).armed = true ∧ (lone 1).skip = 0 ∧
      16 ≤ (lone 1).nSlots ∧ (lone 1).div + 1 = (lone 1).params.k ∧
      (lone 1).descs[0]?.map (·.kind) = some .pushbutton ∧ (lone 1).descs[0]?.map (·.machineState) = some .closed ∧
      (0x0008#16).getLsbD 3 = true ∧ (lone 1).prev.getLsbD 3 ≠ true) ∧
    (busy 16 1 1).Inv ∧ (busy 16 1 1).prev.getLsbD 3 ≠ (0x0098#16).getLsbD 3 ∧
      (button 3 .closing .immediate 0 0 1 (some 1)).machineState = .closing :=
  ⟨⟨lone_inv 1, lone_inv 2, rfl, rfl, rfl, by decide, rfl, rfl, rfl, rfl, by decide⟩,
    busy_inv 16 1 1 (by decide) (by decide) (by decide) (by decide) (by decide), by decide, rfl⟩

/-- N = 8: the first position beyond it, and the last of the sample. -/
theorem test_meets_ChangeBeyondRegistryHalts :
    (busy 8 0 1).Inv ∧ (busy 8 0 1).halted = false ∧ (busy 8 0 1).armed = true ∧ (busy 8 0 1).skip = 0 ∧
    ((busy 8 0 1).nSlots ≤ 8 ∧ (busy 8 0 1).prev.getLsbD 8 ≠ (0x0190#16).getLsbD 8) ∧
    ((busy 8 0 1).nSlots ≤ 15 ∧ (busy 8 0 1).prev.getLsbD 15 ≠ (0x8090#16).getLsbD 15) :=
  ⟨busy_inv 8 0 1 (by decide) (by decide) (by decide) (by decide) (by decide), rfl, rfl, rfl, by decide, by decide⟩

/-- h0 expires, h1 is held, the Pair is no member. -/
theorem test_meets_TickAdvancesEveryMember :
    (busy 16 1 1).Inv ∧ (busy 16 1 1).halted = false ∧ (busy 16 1 1).armed = true ∧ (busy 16 1 1).skip = 0 ∧
    (busy 16 1 1).div + 1 = (busy 16 1 1).params.k ∧ (busy 16 1 1).IsAds [0, 1] ∧
    ((button 3 .closing .immediate 0 0 1 (some 1)).Timing ∧ (button 3 .closing .immediate 0 0 1 (some 1)).countdown = 1#16) ∧
    ((button 7 .opening .immediate 1 1 2 none).Timing ∧ (button 7 .opening .immediate 1 1 2 none).countdown ≠ 1#16) ∧
    ¬ (twin 1 1).Timing :=
  ⟨busy_inv 16 1 1 (by decide) (by decide) (by decide) (by decide) (by decide), rfl, rfl, rfl, rfl,
    ⟨⟨rfl, _, rfl, rfl, _, rfl, rfl⟩, by decide⟩, ⟨⟨rfl, .inr rfl⟩, rfl⟩, ⟨⟨rfl, .inl rfl⟩, by decide⟩,
    fun h => by cases h.1⟩

theorem test_meets_ScanDirectionIsUnobservable :
    (busy 16 0 1).Inv ∧ 16 ≤ (busy 16 0 1).nSlots ∧ ∃ t, exec (.xferDone 0x0028) (busy 16 0 1) = .next t ∧ t.armed = true :=
  ⟨busy_inv 16 0 1 (by decide) (by decide) (by decide) (by decide) (by decide), by decide,
    next_of_after (f := State.armed) (by decide)⟩

theorem test_meets_PendingBitsLastUntilTake :
    (∃ t, exec (.take 1) (bare.setPend 2 5) = .next t ∧ t.wake 2 = true) ∧ Instr.take 1 ≠ .reset ∧
    Instr.take 1 ≠ .take 2 :=
  ⟨next_of_after (f := fun t => t.wake 2) (by decide), by decide, by decide⟩

/-- A tick that commits: h0 in Immediate mode bounced back to open. -/
theorem test_meets_EveryCommitIsNotified :
    ∃ t, exec (.xferDone 0x8) { timed (button 3 .closing .immediate 1 0 1 none) with prev := 0x8, div := 1 } = .next t ∧
      t.descs[0]?.map (·.debounced) = some 1 :=
  next_of_after (f := fun t => t.descs[0]?.map (·.debounced)) (by decide)

/-- An operation outside each of the four clauses. -/
theorem test_meets_WriteAuthority :
    (∃ t, exec (.rddeb 0) (busy 16 0 1) = .next t ∧ t.halted = false) ∧ Instr.rddeb 0 ≠ .reset ∧ Instr.rddeb 0 ≠ .start ∧
    (∀ w, Instr.rddeb 0 ≠ .setout w) ∧ ∀ rx, Instr.rddeb 0 ≠ .xferDone rx :=
  ⟨next_of_after (f := State.halted) (by decide), by decide, by decide, fun _ h => (by cases h), fun _ h => by cases h⟩

theorem test_meets_CommandsLeaveDescriptorsAlone :
    (Instr.register 0 1 0x100 0 .pushbutton .settled 1 1).format = .cmd ∧
    ∃ t, exec (.register 0 1 0x100 0 .pushbutton .settled 1 1) { busy 16 0 1 with armed := false } = .next t ∧ t.ndesc = 4 :=
  ⟨rfl, next_of_after (f := State.ndesc) (by decide)⟩

theorem test_meets_ParametersAreConstant :
    ∃ t, step { busy 16 0 1 with inbox := [.pin] } = .next t ∧ t.armed = false :=
  next_of_after (f := State.armed) (by decide)

theorem test_meets_StepKeepsPhase :
    bare.PhaseInv ∧ ∃ t, step { bare with inbox := [.cmd [0x10000000, 1, 0, 0, 0]] } = .next t ∧ t.halted = true :=
  ⟨⟨fun _ => rfl, fun h => by cases h⟩, next_of_after (f := State.halted) (by decide)⟩

theorem test_meets_StepKeepsRegistry :
    { busy 16 0 1 with inbox := [.link 0x28] }.RegistryInv ∧
    ∃ t, step { busy 16 0 1 with inbox := [.link 0x28] } = .next t ∧ t.halted = false :=
  ⟨{ busy_registry 16 0 1 (by decide) (by decide) with }, next_of_after (f := State.halted) (by decide)⟩

theorem test_meets_StepKeepsInvariant :
    { busy 16 1 1 with inbox := [.link 0x28] }.Inv ∧
    ∃ t, step { busy 16 1 1 with inbox := [.link 0x28] } = .next t ∧ t.halted = false :=
  have h := busy_inv 16 1 1 (by decide) (by decide) (by decide) (by decide) (by decide)
  ⟨{ phase := h.phase, idle := rfl, agents := by simp [Frame.fromAgent],
     running := fun _ =>
      have r := h.running rfl
      { registry := { r.registry with }, sound := r.sound, ads := r.ads, unlinked := r.unlinked, div_lt := r.div_lt
        skip_le := r.skip_le, discarding := r.discarding, unarmed := r.unarmed, tracks := r.tracks } },
    next_of_after (f := State.halted) (by decide)⟩

theorem test_meets_CompletionEnabledExactlyWhenOutstanding :
    (busy 8 0 1).Inv ∧ (busy 8 0 1).outstanding = true :=
  ⟨busy_inv 8 0 1 (by decide) (by decide) (by decide) (by decide) (by decide), rfl⟩

end Sys2Proof.Tests
end

section
/-!
PROOFS. The constants K, N_DISCARD, SCAN_DIR, LATE_REG and N (00_scope.md R5, 10_state.md R44): what the debounce
transitions write, what a completed operation is built from, and that no step writes a constant.
-/

namespace Sys2Proof.Machine

open Sys2Proof

/-! ### The rows of an operation (R94) -/

/-- The transition of a TMEM row (R212). -/
def runTick : TickRow → Nat → State → Except Abort State
  | .hold => fun h s => .ok (tickHold h s)
  | .expire => tickExpire

theorem exec_ofDisp (row : DispRow) (pos : Nat) (s : State) :
    exec (.ofDisp row pos) s = fireDisp row pos (runDisp row pos) s := by cases row <;> rfl

theorem exec_ofPb (row : PbRow) (h : Nat) (s : State) :
    exec (.ofPb row h) s = firePb row h (runPb row h) s := by cases row <;> rfl

theorem exec_ofSettle (row : SettleRow) (h : Nat) (s : State) :
    exec (.ofSettle row h) s = fireSettle row h (runSettle row h) s := by cases row <;> rfl

theorem exec_ofPair (row : PairRow) (h : Nat) (s : State) :
    exec (.ofPair row h) s = firePair row h (runPair row h) s := by cases row <;> rfl

theorem exec_ofTick (row : TickRow) (h : Nat) (s : State) :
    exec (.ofTick row h) s = fireTick row h (runTick row h) s := by cases row <;> rfl

/-- Every operation is RESET, a host command, XFER_DONE, or the transition of a selector's row (R80, R94). -/
theorem instr_cases_by_row {motive : Instr → Prop} (reset : motive .reset)
    (register : ∀ c nv mp ms kind mode dc dop, motive (.register c nv mp ms kind mode dc dop))
    (start : motive .start) (setout : ∀ w, motive (.setout w)) (rddeb : ∀ h, motive (.rddeb h))
    (take : ∀ c, motive (.take c)) (xferDone : ∀ rx, motive (.xferDone rx))
    (disp : ∀ row pos, motive (.ofDisp row pos)) (pb : ∀ row h, motive (.ofPb row h))
    (settle : ∀ row h, motive (.ofSettle row h)) (pair : ∀ row h, motive (.ofPair row h))
    (tick : ∀ row h, motive (.ofTick row h)) : ∀ i, motive i
  | .reset => reset
  | .register c nv mp ms kind mode dc dop => register c nv mp ms kind mode dc dop
  | .start => start
  | .setout w => setout w
  | .rddeb h => rddeb h
  | .take c => take c
  | .xferDone rx => xferDone rx
  | .dispNone pos => disp .none pos
  | .dispPb pos => disp .pb pos
  | .dispPair pos => disp .pair pos
  | .pbOpenInstant h => pb .openInstant h
  | .pbOpenImm h => pb .openImm h
  | .pbOpenSet h => pb .openSet h
  | .pbCloseInstant h => pb .closeInstant h
  | .pbCloseImm h => pb .closeImm h
  | .pbCloseSet h => pb .closeSet h
  | .pbExtendOpening h => pb .extendOpening h
  | .pbExtendClosing h => pb .extendClosing h
  | .pbNoneClosed h => pb .noneClosed h
  | .pbNoneOpen h => pb .noneOpen h
  | .settleOpeningConfirmImm h => settle .openingConfirmImm h
  | .settleOpeningConfirmSet h => settle .openingConfirmSet h
  | .settleOpeningBounceImm h => settle .openingBounceImm h
  | .settleOpeningBounceSet h => settle .openingBounceSet h
  | .settleClosingConfirmImm h => settle .closingConfirmImm h
  | .settleClosingConfirmSet h => settle .closingConfirmSet h
  | .settleClosingBounceImm h => settle .closingBounceImm h
  | .settleClosingBounceSet h => settle .closingBounceSet h
  | .pairIgnore00 h => pair .ignore00 h
  | .pairIgnore11 h => pair .ignore11 h
  | .pairCommit01 h => pair .commit01 h
  | .pairSame01 h => pair .same01 h
  | .pairCommit10 h => pair .commit10 h
  | .pairSame10 h => pair .same10 h
  | .tickHold h => tick .hold h
  | .tickExpire h => tick .expire h

/-! ### When an operation answers a next state -/

theorem fireDisp_next {row : DispRow} {pos : Nat} {effect : State → Except Abort State} {s t : State} :
    fireDisp row pos effect s = .next t ↔
      s.halted = false ∧ pos < s.nSlots ∧ decodeDisp (dispSelector s pos) = row ∧ finish s (effect s) = .next t := by
  rw [fireDisp, whileRunning_next]
  refine and_congr_right fun _ => ?_
  split
  · next hs => simp [hs]
  · next hs => simpa using fun h1 h2 => absurd ⟨h1, h2⟩ hs

theorem fireTick_next {row : TickRow} {h : Nat} {effect : State → Except Abort State} {s t : State} :
    fireTick row h effect s = .next t ↔
      s.halted = false ∧ ∃ d, s.descs[h]? = some d ∧ decodeTmem (tickSelector d) = row ∧
        finish s (effect s) = .next t := by
  rw [fireTick, whileRunning_next]
  refine and_congr_right fun _ => ?_
  split
  · next hd => simp [hd]
  · next d hd =>
    rw [hd]
    split
    · next hs => simp [hs]
    · next hs => simp [hs]

theorem pairEvent_ok {h : Nat} {rx : Sample} {s t : State} :
    pairEvent h rx s = .ok t ↔ ∃ d, s.descs[h]? = some d ∧
      t = runPair (decodePair (pairSelector { d with raw := pairCode d rx })) h
        (s.modDesc h fun e => { e with raw := pairCode d rx }) := by
  cases hd : s.descs[h]? with
  | none => simp [pairEvent, hd]
  | some d => simp [pairEvent_some hd, eq_comm]

theorem runDispPb_ok {pos : Nat} {s t : State} :
    runDispPb pos s = .ok t ↔ ∃ h, s.slot pos = some h ∧
      pbEvent h (sampleBit s.scratch.rx pos) (clearWork (bitMask pos) s) = .ok t := by
  rw [runDispPb]
  split
  · next hp => simp [hp]
  · next h hp => simp [hp]

theorem runDispPair_ok {pos : Nat} {s t : State} :
    runDispPair pos s = .ok t ↔ ∃ h d, s.slot pos = some h ∧ s.descs[h]? = some d ∧
      pairEvent h s.scratch.rx (clearWork (bitMask d.bitPrimary.toNat ||| bitMask d.bitSecondary.toNat) s) = .ok t := by
  rw [runDispPair]
  split
  · next hp => simp [hp]
  · next h hp =>
    split
    · next hd => simp [hp, hd]
    · next d hd => simp [hp, hd]

theorem scanSample_ok {rx : Sample} {s t : State} :
    scanSample rx s = .ok t ↔ ∃ u, dispatchLoop 32 s.params.scanDir (beginScan rx s) = .ok u ∧
      t = { endScan u with prev := rx } := by
  rw [scanSample]
  split
  · next a ha => simp [ha]
  · next u hu => simp [hu, eq_comm]

theorem tick_ok {s t : State} :
    tick s = .ok t ↔ ∃ u, tickWalk s.ndesc s.head (setPrevNode none s) = .ok u ∧ t = setPrevNode none u := by
  rw [tick]
  split
  · next a ha => simp [ha]
  · next u hu => simp [hu, eq_comm]

/-- REGISTER succeeds exactly where every check of R150 passes, and then it allocates and answers the new handle. -/
theorem registerSteps_ok {c : BitVec 4} {nv mp ms : Word} {kind : Kind} {mode : Mode} {dc dop : Ticks} {s t : State} :
    registerSteps c nv mp ms kind mode dc dop s = .ok t ↔
      malformedMasks mp ms kind = none ∧ ¬ (s.armed ∧ s.params.lateReg = .fatal) ∧ zeroMasked mp ms kind = false ∧
      ∃ bp bs, maskPosition s.params.scanDir mp = .ok bp ∧ secondaryPosition s.params.scanDir kind ms = .ok bs ∧
        outOfRange s bp bs = false ∧ doubled s bp bs = false ∧
        t = respond (BitVec.ofNat 32 s.ndesc) (allocate (newDescriptor c nv bp bs kind mode dc dop) bp bs s) := by
  rw [registerSteps]
  split
  · next r hm => simp [hm]
  · next hm =>
    split
    · next hl => simp [hl]
    · next hl =>
      split
      · next hz => simp [hz]
      · next hz =>
        split
        · next a hp => simp [hp]
        · next bp hp =>
          split
          · next a hq => simp [hq]
          · next bs hq =>
            split
            · next ho => simp [hp, hq, ho]
            · next ho =>
              split
              · next hd => simp [hp, hq, hd]
              · next hd =>
                simp only [hm, hl, Bool.eq_false_of_not_eq_true hz, hp, hq]
                simpa [ho, hd] using eq_comm

/-! ### What the debounce transitions write: D, HEAD, PEND and the scratch, nothing else -/

/-- A state but for what the transitions of a scan cycle write (R144 to R146, R171 to R189, R201 to R214). -/
def State.apartFromDebounce (s : State) : State :=
  { s with descs := [], pend := Vector.replicate 16 0#32, head := none, scratch := Scratch.idle }

@[simp] theorem modDesc_apartFromDebounce (s : State) (h : Nat) (f : Descriptor → Descriptor) :
    (s.modDesc h f).apartFromDebounce = s.apartFromDebounce := rfl

@[simp] theorem clearWork_apartFromDebounce (m : Word) (s : State) :
    (clearWork m s).apartFromDebounce = s.apartFromDebounce := rfl

@[simp] theorem setPrevNode_apartFromDebounce (p : Option Nat) (s : State) :
    (setPrevNode p s).apartFromDebounce = s.apartFromDebounce := rfl

@[simp] theorem beginScan_apartFromDebounce (rx : Sample) (s : State) :
    (beginScan rx s).apartFromDebounce = s.apartFromDebounce := rfl

@[simp] theorem endScan_apartFromDebounce (s : State) :
    (endScan s).apartFromDebounce = s.apartFromDebounce := rfl

@[simp] theorem notify_apartFromDebounce (h : Nat) (s : State) :
    (notify h s).apartFromDebounce = s.apartFromDebounce := by rw [notify_frame]; rfl

@[simp] theorem adsInsert_apartFromDebounce (h : Nat) (s : State) :
    (adsInsert h s).apartFromDebounce = s.apartFromDebounce := rfl

@[simp] theorem adsUnlink_apartFromDebounce (cur : Nat) (p nxt : Option Nat) (s : State) :
    (adsUnlink cur p nxt s).apartFromDebounce = s.apartFromDebounce := by cases p <;> rfl

@[simp] theorem runPb_apartFromDebounce (row : PbRow) (h : Nat) (s : State) :
    (runPb row h s).apartFromDebounce = s.apartFromDebounce := by
  cases row <;> simp [runPb, pbOpenInstant, pbOpenImm, pbOpenSet, pbCloseInstant, pbCloseImm, pbCloseSet,
    pbExtendOpening, pbExtendClosing, pbNoneClosed, pbNoneOpen]

@[simp] theorem runSettle_apartFromDebounce (row : SettleRow) (h : Nat) (s : State) :
    (runSettle row h s).apartFromDebounce = s.apartFromDebounce := by
  cases row <;> simp [runSettle, settleOpeningConfirmImm, settleOpeningConfirmSet, settleOpeningBounceImm,
    settleOpeningBounceSet, settleClosingConfirmImm, settleClosingConfirmSet, settleClosingBounceImm,
    settleClosingBounceSet]

@[simp] theorem runPair_apartFromDebounce (row : PairRow) (h : Nat) (s : State) :
    (runPair row h s).apartFromDebounce = s.apartFromDebounce := by
  cases row <;> simp [runPair, pairIgnore00, pairIgnore11, pairCommit01, pairSame01, pairCommit10, pairSame10]

theorem pbEvent_apartFromDebounce {h : Nat} {r : Bool} {s t : State} (ht : pbEvent h r s = .ok t) :
    t.apartFromDebounce = s.apartFromDebounce := by
  obtain ⟨d, -, rfl⟩ := pbEvent_ok.mp ht
  simp

theorem pairEvent_apartFromDebounce {h : Nat} {rx : Sample} {s t : State} (ht : pairEvent h rx s = .ok t) :
    t.apartFromDebounce = s.apartFromDebounce := by
  obtain ⟨d, -, rfl⟩ := pairEvent_ok.mp ht
  simp

theorem settle_apartFromDebounce {h : Nat} {s t : State} (ht : settle h s = .ok t) :
    t.apartFromDebounce = s.apartFromDebounce := by
  obtain ⟨d, row, -, -, rfl⟩ := settle_ok.mp ht
  simp

theorem tickExpire_apartFromDebounce {h : Nat} {s t : State} (ht : tickExpire h s = .ok t) :
    t.apartFromDebounce = s.apartFromDebounce := by
  obtain ⟨d, u, -, hu, rfl⟩ := tickExpire_ok.mp ht
  simpa using settle_apartFromDebounce hu

theorem runTick_apartFromDebounce {row : TickRow} {h : Nat} {s t : State} (ht : runTick row h s = .ok t) :
    t.apartFromDebounce = s.apartFromDebounce := by
  cases row with
  | hold => cases ht; rfl
  | expire => exact tickExpire_apartFromDebounce ht

theorem runDisp_apartFromDebounce {row : DispRow} {pos : Nat} {s t : State} (ht : runDisp row pos s = .ok t) :
    t.apartFromDebounce = s.apartFromDebounce := by
  cases row with
  | none => cases ht; rfl
  | pb =>
    obtain ⟨h, -, hu⟩ := runDispPb_ok.mp ht
    simpa using pbEvent_apartFromDebounce hu
  | pair =>
    obtain ⟨h, d, -, -, hu⟩ := runDispPair_ok.mp ht
    simpa using pairEvent_apartFromDebounce hu

theorem dispatchAt_apartFromDebounce {pos : Nat} {s t : State} (ht : dispatchAt pos s = .ok t) :
    t.apartFromDebounce = s.apartFromDebounce :=
  runDisp_apartFromDebounce (dispatchAt_ok.mp ht).2

theorem dispatchLoop_apartFromDebounce {n : Nat} {dir : ScanDir} {s t : State} (ht : dispatchLoop n dir s = .ok t) :
    t.apartFromDebounce = s.apartFromDebounce := by
  fun_induction dispatchLoop n dir s with
  | case1 | case3 => cases ht; rfl
  | case2 | case4 => cases ht
  | case5 n dir s pos _ u hu ih => exact (ih ht).trans (dispatchAt_apartFromDebounce hu)

/-- The passes that stand after Fatal(4) (R246) write no more than the whole loop does. -/
@[simp] theorem dispatchPrefix_apartFromDebounce (n : Nat) (dir : ScanDir) (s : State) :
    (dispatchPrefix n dir s).apartFromDebounce = s.apartFromDebounce := by
  fun_induction dispatchPrefix n dir s with
  | case1 | case2 | case3 => rfl
  | case4 n dir s pos _ u hu ih => exact ih.trans (dispatchAt_apartFromDebounce hu)

theorem tickWalk_apartFromDebounce {n : Nat} {cur : Option Nat} {s t : State} (ht : tickWalk n cur s = .ok t) :
    t.apartFromDebounce = s.apartFromDebounce := by
  fun_induction tickWalk n cur s with
  | case1 => cases ht; rfl
  | case2 | case3 | case5 => cases ht
  | case4 n cur s d _ _ ih => exact ih ht
  | case6 n cur s d _ _ u hu ih => exact (ih ht).trans (tickExpire_apartFromDebounce hu)

theorem tick_apartFromDebounce {s t : State} (ht : tick s = .ok t) : t.apartFromDebounce = s.apartFromDebounce := by
  obtain ⟨u, hu, rfl⟩ := tick_ok.mp ht
  simpa using tickWalk_apartFromDebounce hu

/-! ### The constants of a state -/

/-- The parameters K, N_DISCARD, SCAN_DIR, LATE_REG, and N (R5). -/
def State.constants (s : State) : Params × Nat := (s.params, s.nSlots)

theorem constants_of_apartFromDebounce {s t : State} (ht : t.apartFromDebounce = s.apartFromDebounce) :
    t.constants = s.constants :=
  show t.apartFromDebounce.constants = s.apartFromDebounce.constants from congrArg State.constants ht

@[simp] theorem raiseFatal_constants (code : FatalCode) (s : State) :
    (raiseFatal code s).constants = s.constants := by
  rw [raiseFatal]
  split <;> rfl

/-- Neither the halt in `s` nor a completed effect that keeps the constants changes them. -/
theorem finish_constants {s t : State} {r : Except Abort State} (hr : ∀ u, r = .ok u → u.constants = s.constants)
    (ht : finish s r = .next t) : t.constants = s.constants := by
  rcases finish_next.mp ht with hu | ⟨code, -, rfl⟩
  · exact hr t hu
  · exact raiseFatal_constants code s

@[simp] theorem setSlot_constants (s : State) (p h : Nat) : (s.setSlot p h).constants = s.constants := by
  simp [State.constants, nSlots_eq]

@[simp] theorem allocate_constants (d : Descriptor) (bp : Nat) (bs : Option Nat) (s : State) :
    (allocate d bp bs s).constants = s.constants := by
  cases bs with
  | none => exact setSlot_constants _ _ _
  | some p => exact (setSlot_constants _ _ _).trans (setSlot_constants _ _ _)

theorem registerSteps_constants {c : BitVec 4} {nv mp ms : Word} {kind : Kind} {mode : Mode} {dc dop : Ticks}
    {s t : State} (ht : registerSteps c nv mp ms kind mode dc dop s = .ok t) : t.constants = s.constants := by
  obtain ⟨-, -, -, bp, bs, -, -, -, -, rfl⟩ := registerSteps_ok.mp ht
  exact allocate_constants _ bp bs s

theorem execReset_constants {s t : State} (ht : execReset s = .next t) : t.constants = s.constants := by
  cases ht
  simp [State.constants, State.powerUp, nSlots_eq]

theorem execStart_constants {s t : State} (ht : execStart s = .next t) : t.constants = s.constants := by
  obtain ⟨-, hu⟩ := whileRunning_next.mp ht
  split at hu <;> cases hu
  rfl

theorem execRddeb_constants {h : Nat} {s t : State} (ht : execRddeb h s = .next t) : t.constants = s.constants := by
  obtain ⟨-, hu⟩ := whileRunning_next.mp ht
  split at hu <;> cases hu
  rfl

theorem sampleStep_constants {rx : Sample} {s t : State} (ht : sampleStep rx s = .ok t) :
    t.constants = s.constants := by
  rw [sampleStep] at ht
  split at ht
  · cases ht; rfl
  · obtain ⟨u, hu, rfl⟩ := scanSample_ok.mp ht
    have hc : u.constants = (beginScan rx s).constants :=
      constants_of_apartFromDebounce (dispatchLoop_apartFromDebounce hu)
    exact hc

theorem countStep_constants {s t : State} (ht : countStep s = .ok t) : t.constants = s.constants := by
  unfold countStep at ht
  split at ht
  · have hc : t.constants = State.constants { s with cyc := s.cyc + 1#32, div := 0 } :=
      constants_of_apartFromDebounce (tick_apartFromDebounce ht)
    exact hc
  · cases ht; rfl

theorem scanRangeResidue_constants (rx : Sample) (s : State) : (scanRangeResidue rx s).constants = s.constants := by
  have hc (n : Nat) (dir : ScanDir) : (dispatchPrefix n dir (beginScan rx s)).constants = (beginScan rx s).constants :=
    constants_of_apartFromDebounce (dispatchPrefix_apartFromDebounce n dir (beginScan rx s))
  exact hc _ _

theorem execXferDone_constants {rx : Sample} {s t : State} (ht : execXferDone rx s = .next t) :
    t.constants = s.constants := by
  obtain ⟨-, -, hc | ⟨code, -, rfl⟩⟩ := execXferDone_next.mp ht
  · obtain ⟨u, v, hu, hv, rfl⟩ := cycleSteps_ok.mp hc
    exact (countStep_constants hv).trans (sampleStep_constants hu)
  · exact (raiseFatal_constants _ _).trans (scanRangeResidue_constants rx s)

/-- R44: no operation that completes writes a constant. -/
theorem exec_constants {i : Instr} {s t : State} (ht : exec i s = .next t) : t.constants = s.constants := by
  cases i using instr_cases_by_row with
  | reset => exact execReset_constants ht
  | register c nv mp ms kind mode dc dop =>
    exact finish_constants (fun _ => registerSteps_constants) (whileRunning_next.mp ht).2
  | start => exact execStart_constants ht
  | setout w => cases (whileRunning_next.mp ht).2; rfl
  | rddeb h => exact execRddeb_constants ht
  | take c => cases (whileRunning_next.mp ht).2; rfl
  | xferDone rx => exact execXferDone_constants ht
  | disp row pos =>
    obtain ⟨-, -, -, hf⟩ := fireDisp_next.mp (exec_ofDisp row pos s ▸ ht)
    exact finish_constants (fun _ hu => constants_of_apartFromDebounce (runDisp_apartFromDebounce hu)) hf
  | pb row h =>
    obtain ⟨-, d, -, -, -, rfl⟩ := firePb_next.mp (exec_ofPb row h s ▸ ht)
    exact constants_of_apartFromDebounce (runPb_apartFromDebounce row h s)
  | settle row h =>
    obtain ⟨-, d, -, -, rfl⟩ := fireSettle_next.mp (exec_ofSettle row h s ▸ ht)
    exact constants_of_apartFromDebounce (runSettle_apartFromDebounce row h s)
  | pair row h =>
    obtain ⟨-, d, -, -, -, rfl⟩ := firePair_next.mp (exec_ofPair row h s ▸ ht)
    exact constants_of_apartFromDebounce (runPair_apartFromDebounce row h s)
  | tick row h =>
    obtain ⟨-, d, -, -, hf⟩ := fireTick_next.mp (exec_ofTick row h s ▸ ht)
    exact finish_constants (fun _ hu => constants_of_apartFromDebounce (runTick_apartFromDebounce hu)) hf

/-- Settles O52: a step is idle or runs one operation, and no operation writes a constant. -/
theorem parametersAreConstant : Obligations.ParametersAreConstant := by
  intro s t ht
  have hc : t.constants = s.constants := by
    rcases step_next.mp ht with ⟨-, rfl⟩ | ⟨f, rest, i, -, -, hi⟩
    · rfl
    · have hs : t.constants = State.constants { s with inbox := rest } := exec_constants hi
      exact hs
  exact Prod.mk.inj hc

end Sys2Proof.Machine
end

section
/-!
PROOFS. Malformed packets (30_encoding.md R93): what the decoder answers to each, and that a step refuses it.
-/

namespace Sys2Proof

/-! ### What the decoder answers -/

/-- R89, R92: only the five values of `op` with a row have a packet length. -/
theorem packetWords_ne_none_iff (op : BitVec 4) : packetWords op ≠ none ↔ 1 ≤ op ∧ op ≤ 5 := by
  revert op
  decide

theorem headerReject_eq (w : Word) :
    headerReject w = if 1 ≤ headerOp w ∧ headerOp w ≤ 5 then .reservedBits else .reservedOp := by
  simp only [← packetWords_ne_none_iff, headerReject]
  cases packetWords (headerOp w) <;> rfl

theorem cmdRowOf_eq_none {w : Word} (hw : ∀ r ∈ cmdRows, w &&& r.mask ≠ r.value) : cmdRowOf w = none := by
  simpa [cmdRowOf] using hw

theorem decode_unselected {w : Word} (hw : ∀ r ∈ cmdRows, w &&& r.mask ≠ r.value) (ws : List Word) :
    decode (.cmd (w :: ws)) = .error (headerReject w) := by
  simp [decode, decodePacket, decodeCmd, cmdRowOf_eq_none hw]

/-- A bit at or above 16 is a bit of the upper half. -/
theorem upperHalf_ne_zero {v : Word} {p : Nat} (hp : 16 ≤ p) (hv : v.getLsbD p = true) :
    v.extractLsb' 16 16 ≠ 0#16 := by
  intro h0
  have hlt : p < 32 := BitVec.lt_of_getLsbD hv
  have hbit : (v.extractLsb' 16 16).getLsbD (p - 16) = true := by
    simp [show p - 16 < 16 by omega, show 16 + (p - 16) = p by omega, hv]
  simp [h0] at hbit

theorem decode_setout_tooWide {v : Word} (hv : v.extractLsb' 16 16 ≠ 0#16) :
    decode (.cmd [0x30000000#32, v]) = .error .outputWordTooWide := by
  have hrow : cmdRowOf 0x30000000#32 = some ⟨.setout, 0x30000000#32, 0xFFFFFFFF#32⟩ := rfl
  simp [decode, decodePacket, decodeCmd, hrow, hv]

/-- R92: the row of RDDEB leaves the handle free. -/
theorem cmdRowOf_rddeb (h : BitVec 8) :
    cmdRowOf (0x40#8 ++ 0#16 ++ h) = some ⟨.rddeb, 0x40000000#32, 0xFFFFFF00#32⟩ := by
  revert h
  decide

theorem decode_rddeb (h : BitVec 8) : decode (.cmd [0x40#8 ++ 0#16 ++ h]) = .ok (.rddeb h.toNat) := by
  have hhandle : (0x40#8 ++ 0#16 ++ h).extractLsb' 0 8 = h := BitVec.extractLsb'_append_eq_right
  simp only [decode, decodePacket, decodeCmd, cmdRowOf_rddeb, hhandle]

namespace Machine

/-! ### What a step answers -/

theorem step_of_decode_error {s : State} {f : Frame} {rest : List Frame} {e : Reject} (hin : s.inbox = f :: rest)
    (hd : decode f = .error e) : step s = .refused (.malformedFrame e) := by
  simp [step, hin, hd]

theorem step_of_decode_ok {s : State} {f : Frame} {rest : List Frame} {i : Instr} (hin : s.inbox = f :: rest)
    (hd : decode f = .ok i) : step s = exec i { s with inbox := rest } := by
  simp [step, hin, hd]

theorem execRddeb_unknownHandle {s : State} {h : Nat} (hh : s.halted = false) (hn : s.ndesc ≤ h) :
    execRddeb h s = .refused .unknownHandle := by
  have hnone : s.descs[h]? = none := List.getElem?_eq_none hn
  rw [execRddeb, whileRunning_running hh, hnone]

/-- Settles O5: the decoder refuses the first two kinds of malformed packet, RDDEB itself the third. -/
theorem malformedPacketIsRefused : Obligations.MalformedPacketIsRefused := by
  intro s w ws rest hin hh
  refine ⟨fun hw => ?_, fun hw hws => ?_, fun h hw hws hn => ?_⟩
  · rw [← headerReject_eq]
    exact step_of_decode_error hin (decode_unselected hw ws)
  · obtain ⟨v, rfl, p, hp, hv⟩ := hws
    subst hw
    exact step_of_decode_error hin (decode_setout_tooWide (upperHalf_ne_zero hp hv))
  · subst hw hws
    rw [step_of_decode_ok hin (decode_rddeb h)]
    exact execRddeb_unknownHandle (s := { s with inbox := rest }) hh hn

end Machine

end Sys2Proof
end

section
/-!
PROOFS. The Bit Scanner's primitive (40_bit_scanner.md R110): what clz finds, that zero alone has no value, and what
REGISTER makes of a zero mask.
-/

namespace Sys2Proof.Machine

open Sys2Proof

/-! ### The leading zeros of a word (R110) -/

/-- The first n bits counted from the left are the bits from position 32 - n up; a position beyond the word reads 0. -/
theorem leading_bits_clear_iff (x : Word) (n : Nat) :
    (∀ j < n, x.getLsbD (31 - j) = false) ↔ ∀ i, 32 ≤ i + n → x.getLsbD i = false := by
  constructor
  · intro hleft i hi
    by_cases hin : i < 32
    · have hbit : x.getLsbD (31 - (31 - i)) = false := hleft (31 - i) (by omega)
      rwa [show 31 - (31 - i) = i by omega] at hbit
    · exact BitVec.getLsbD_of_ge x i (Nat.le_of_not_lt hin)
  · intro habove j hj
    exact habove (31 - j) (by omega)

theorem clz_eq_some_iff (x : Word) (n : Nat) :
    clz x = some n ↔ n ≤ 31 ∧ x.getLsbD (31 - n) = true ∧ ∀ i, 31 - n < i → x.getLsbD i = false := by
  have hfind : clz x = some n ↔ n < 32 ∧ x.getLsbD (31 - n) = true ∧ ∀ j < n, x.getLsbD (31 - j) = false := by
    simp only [clz, List.find?_range_eq_some, List.mem_range, Bool.not_eq_true', and_left_comm]
  rw [hfind, Nat.lt_succ_iff]
  refine and_congr_right fun hn => and_congr_right fun _ => ?_
  rw [leading_bits_clear_iff]
  exact forall_congr' fun i => imp_congr_left (by omega)

theorem clz_eq_none_iff (x : Word) : clz x = none ↔ x = 0#32 := by
  have hfind : clz x = none ↔ ∀ j < 32, x.getLsbD (31 - j) = false := by
    simp only [clz, List.find?_range_eq_none, Bool.not_eq_true']
  rw [hfind, leading_bits_clear_iff]
  constructor
  · intro hclear
    exact BitVec.eq_of_getLsbD_eq fun i _ => by rw [hclear i (by omega), BitVec.getLsbD_zero]
  · rintro rfl i -
    exact BitVec.getLsbD_zero

/-! ### A zero operand (R110, R113) -/

theorem bscanMs_zero : bscanMs 0#32 = none := by
  rw [bscanMs, (clz_eq_none_iff _).mpr rfl, Option.map_none]

theorem bscanLs_zero : bscanLs 0#32 = none := by
  rw [bscanLs, List.find?_range_eq_none]
  intro i _
  rw [BitVec.getLsbD_zero, Bool.not_false]

theorem scan_zero (dir : ScanDir) : scan dir 0#32 = none := by
  cases dir with
  | lsf => exact bscanLs_zero
  | msf => exact bscanMs_zero

theorem maskPosition_zero (dir : ScanDir) : maskPosition dir 0#32 = .error (.fatal .zeroMask) := by
  rw [maskPosition, scan_zero]

/-- Settles O20: clz searches the bits from the left, so the first one it meets is the leading one. -/
theorem clzFindsLeadingBit : Obligations.ClzFindsLeadingBit :=
  ⟨fun x => ⟨clz_eq_some_iff x, clz_eq_none_iff x⟩, maskPosition_zero⟩

end Sys2Proof.Machine
end

section
/-!
PROOFS. The start-up cycle (41_scan_cycle.md R122): step (a) discards the sample, and step (b) over an empty set counts
and nothing else, whether or not its tick is due.
-/

namespace Sys2Proof.Machine

open Sys2Proof

theorem sampleStep_startup {s : State} (rx : Sample) (hskip : 0 < s.skip) : sampleStep rx s = .ok (discard s) := by
  rw [sampleStep, if_pos hskip]

/-! ### A tick over an empty set (R212, R124) -/

theorem setPrevNode_none_of_idle {s : State} (hidle : s.scratch = Scratch.idle) : setPrevNode none s = s := by
  rw [setPrevNode, hidle]
  exact congrArg (fun c => { s with scratch := c }) hidle.symm

/-- R212: with no HEAD the walk ends where it starts, and the cursor it resets was already reset. -/
theorem tick_emptySet {s : State} (hhead : s.head = none) (hidle : s.scratch = Scratch.idle) : tick s = .ok s := by
  rw [tick_ok]
  refine ⟨s, ?_, (setPrevNode_none_of_idle hidle).symm⟩
  rw [setPrevNode_none_of_idle hidle, hhead, tickWalk_end]

theorem countStep_emptySet {s : State} (hhead : s.head = none) (hidle : s.scratch = Scratch.idle) :
    countStep s = .ok { s with
      cyc := s.cyc + 1#32, div := if s.div + 1 = s.params.k then 0 else s.div + 1 } := by
  rw [countStep]
  split
  · exact tick_emptySet (s := { s with cyc := s.cyc + 1#32, div := 0 }) hhead hidle
  · rfl

/-- Settles O40: the sample is discarded (R122), the count's tick meets an empty set, and the driver re-arms (R126). -/
theorem startupCycleOnlyCounts : Obligations.StartupCycleOnlyCounts := by
  intro s rx hrun harmed hskip hhead hidle
  have hcount := countStep_emptySet (s := discard s) hhead hidle
  exact execXferDone_next.mpr ⟨hrun, harmed, .inl (cycleSteps_ok.mpr ⟨_, _, sampleStep_startup rx hskip, hcount, rfl⟩)⟩

end Sys2Proof.Machine
end

section
/-!
PROOFS. One transition of the dispatch on its own (42_change_detector.md R144 to R146): which row a slot selects, and
what it answers.
-/

namespace Sys2Proof.Machine

open Sys2Proof

/-! ### The row a slot selects (R94) -/

theorem slot_of_reg {s : State} {pos : Nat} {o : Option Nat} (hreg : s.reg[pos]? = some o) :
    pos < s.nSlots ∧ s.slot pos = o := by
  obtain ⟨hlt, -⟩ := List.getElem?_eq_some_iff.mp hreg
  exact ⟨hlt, by rw [State.slot, hreg, Option.getD_some]⟩

theorem dispRow_of_empty {s : State} {pos : Nat} (hslot : s.slot pos = none) :
    decodeDisp (dispSelector s pos) = .none := by
  simp only [dispSelector, hslot]
  rfl

theorem dispRow_of_pushbutton {s : State} {pos h : Nat} {d : Descriptor} (hslot : s.slot pos = some h)
    (hd : s.descs[h]? = some d) (hk : d.kind = .pushbutton) : decodeDisp (dispSelector s pos) = .pb := by
  simp only [dispSelector, hslot, hd, hk]
  rfl

theorem dispRow_of_pair {s : State} {pos h : Nat} {d : Descriptor} (hslot : s.slot pos = some h)
    (hd : s.descs[h]? = some d) (hk : d.kind = .pair) : decodeDisp (dispSelector s pos) = .pair := by
  simp only [dispSelector, hslot, hd, hk]
  rfl

/-! ### What the row answers where the slot is owned -/

/-- R145: the bit is cleared and raw written, then the PBEV row that the descriptor now selects runs. -/
theorem runDispPb_some {s : State} {pos h : Nat} {d : Descriptor} (hslot : s.slot pos = some h)
    (hd : s.descs[h]? = some d) :
    runDispPb pos s = .ok (runPb
      (decodePbev (pbSelector { d with raw := levelCode (sampleBit s.scratch.rx pos) })) h
      ((clearWork (bitMask pos) s).modDesc h fun e => { e with raw := levelCode (sampleBit s.scratch.rx pos) })) :=
  runDispPb_ok.mpr ⟨h, hslot, pbEvent_some (s := clearWork (bitMask pos) s) hd⟩

/-- R146: both bits are cleared and raw written, then the PAIR row that the descriptor now selects runs. -/
theorem runDispPair_some {s : State} {pos h : Nat} {d : Descriptor} (hslot : s.slot pos = some h)
    (hd : s.descs[h]? = some d) :
    runDispPair pos s = .ok (runPair
      (decodePair (pairSelector { d with raw := pairCode d s.scratch.rx })) h
      ((clearWork (bitMask d.bitPrimary.toNat ||| bitMask d.bitSecondary.toNat) s).modDesc h
        fun e => { e with raw := pairCode d s.scratch.rx })) :=
  runDispPair_ok.mpr ⟨h, d, hslot, hd,
    pairEvent_some (s := clearWork (bitMask d.bitPrimary.toNat ||| bitMask d.bitSecondary.toNat) s) hd⟩

/-- A DISP transition whose row the slot selects answers what its effect answers. -/
theorem exec_ofDisp_of_ok {row : DispRow} {s t : State} {pos : Nat} (hrun : s.halted = false) (hpos : pos < s.nSlots)
    (hrow : decodeDisp (dispSelector s pos) = row) (hok : runDisp row pos s = .ok t) :
    exec (.ofDisp row pos) s = .next t := by
  rw [exec_ofDisp, fireDisp_next]
  exact ⟨hrun, hpos, hrow, finish_next.mpr (.inl hok)⟩

/-- A PBEV row completes on the Pushbutton that selects it. -/
theorem exec_ofPb_selected {s : State} {h : Nat} {d : Descriptor} (hrun : s.halted = false) (hd : s.descs[h]? = some d)
    (hk : d.kind = .pushbutton) :
    exec (.ofPb (decodePbev (pbSelector d)) h) s = .next (runPb (decodePbev (pbSelector d)) h s) := by
  rw [exec_ofPb, firePb_next]
  exact ⟨hrun, d, hd, hk, rfl, rfl⟩

/-- A PAIR row completes on the Pair that selects it. -/
theorem exec_ofPair_selected {s : State} {h : Nat} {d : Descriptor} (hrun : s.halted = false)
    (hd : s.descs[h]? = some d) (hk : d.kind = .pair) :
    exec (.ofPair (decodePair (pairSelector d)) h) s = .next (runPair (decodePair (pairSelector d)) h s) := by
  rw [exec_ofPair, firePair_next]
  exact ⟨hrun, d, hd, hk, rfl, rfl⟩

/-! ### The statements -/

/-- Settles O24: raw is written in the state with the bit cleared, and the row is the one that state selects. -/
theorem dispPbRunsOneTransition : Obligations.DispPbRunsOneTransition := by
  intro s pos h d hrun hreg hd hk
  obtain ⟨hpos, hslot⟩ := slot_of_reg hreg
  have hdisp := exec_ofDisp_of_ok hrun hpos (dispRow_of_pushbutton hslot hd hk) (runDispPb_some hslot hd)
  rw [modDesc_eq_set (s := clearWork (bitMask pos) s) _ hd] at hdisp
  obtain ⟨hlt, -⟩ := List.getElem?_eq_some_iff.mp hd
  exact ⟨_, _, hdisp, exec_ofPb_selected hrun (List.getElem?_set_self hlt) hk⟩

/-- Settles O25: raw is written in the state with both bits cleared, and the row is the one that state selects. -/
theorem dispPairRunsOneTransition : Obligations.DispPairRunsOneTransition := by
  intro s pos h d hrun hreg hd hk
  obtain ⟨hpos, hslot⟩ := slot_of_reg hreg
  have hdisp := exec_ofDisp_of_ok hrun hpos (dispRow_of_pair hslot hd hk) (runDispPair_some hslot hd)
  rw [modDesc_eq_set (s := clearWork _ s) _ hd] at hdisp
  obtain ⟨hlt, -⟩ := List.getElem?_eq_some_iff.mp hd
  exact ⟨_, _, hdisp, exec_ofPair_selected hrun (List.getElem?_set_self hlt) hk⟩

/-- Settles O23: a slot without a handle selects DISP.NONE, whose only effect is on the working copy. -/
theorem dispNoneSkipsBit : Obligations.DispNoneSkipsBit := by
  intro s pos hrun hreg
  obtain ⟨hpos, hslot⟩ := slot_of_reg hreg
  exact exec_ofDisp_of_ok hrun hpos (dispRow_of_empty hslot) rfl

end Sys2Proof.Machine
end

section
/-!
PROOFS. A changed bit at or beyond N (42_change_detector.md R143): every pass of the loop below N completes, clears its
position and leaves the bits at or beyond N alone, so the scan comes to such a bit and halts.
-/

namespace Sys2Proof.Machine

open Sys2Proof

/-! ### Bits of the working copy -/

@[simp] theorem getLsbD_bitMask (p q : Nat) : (bitMask p).getLsbD q = decide (q < 32 ∧ q = p) := by
  rw [bitMask, BitVec.getLsbD_shiftLeft, BitVec.getLsbD_one, Bool.eq_iff_iff]
  simp
  omega

/-- A sample bit that differs is a changed bit (R141). -/
theorem changedWord_bit {prev rx : Sample} {p : Nat} (hne : prev.getLsbD p ≠ rx.getLsbD p) :
    (changedWord prev rx).getLsbD p = true := by
  have hlt : p < 16 := by
    by_contra hge
    simp [BitVec.getLsbD_of_ge _ p (Nat.le_of_not_lt hge)] at hne
  simpa [changedWord, show p < 32 by omega] using hne

theorem bscanLs_sets {x : Word} {p : Nat} (hp : bscanLs x = some p) : x.getLsbD p = true :=
  (List.find?_range_eq_some.mp hp).1

theorem bscanMs_sets {x : Word} {p : Nat} (hp : bscanMs x = some p) : x.getLsbD p = true := by
  obtain ⟨n, hn, rfl⟩ := Option.map_eq_some_iff.mp hp
  exact ((clz_eq_some_iff x n).mp hn).2.1

/-- R113: the scanned position is that of a set bit. -/
theorem scan_sets {dir : ScanDir} {x : Word} {p : Nat} (hp : scan dir x = some p) : x.getLsbD p = true := by
  cases dir with
  | lsf => exact bscanLs_sets hp
  | msf => exact bscanMs_sets hp

/-- R113: a word with a set bit is scanned. -/
theorem scan_ne_none {dir : ScanDir} {x : Word} {p : Nat} (hp : x.getLsbD p = true) : scan dir x ≠ none := by
  cases dir with
  | lsf =>
    intro hnone
    simpa [hp] using List.find?_range_eq_none.mp hnone p (BitVec.lt_of_getLsbD hp)
  | msf =>
    intro hnone
    rw [(clz_eq_none_iff x).mp (Option.map_eq_none_iff.mp hnone), BitVec.getLsbD_zero] at hp
    cases hp

theorem popcount_le (x : Word) : popcount x ≤ 32 := by
  simpa [popcount] using List.countP_le_length (p := fun i => x.getLsbD i) (l := List.range 32)

theorem popcount_pos {x : Word} {p : Nat} (hp : x.getLsbD p = true) : 0 < popcount x :=
  List.countP_pos_iff.mpr ⟨p, List.mem_range.mpr (BitVec.lt_of_getLsbD hp), hp⟩

/-- Clearing a mask that holds a set bit leaves fewer bits set (R114). -/
theorem popcount_clear_lt {x mask : Word} {p : Nat} (hp : x.getLsbD p = true) (hm : mask.getLsbD p = true) :
    popcount (x &&& ~~~mask) < popcount x := by
  have hsub : ∀ i, (x &&& ~~~mask).getLsbD i = true → x.getLsbD i = true := by simp +contextual
  have hlt : p < 32 := BitVec.lt_of_getLsbD hp
  rw [popcount, popcount, List.countP_eq_length_filter, List.countP_eq_length_filter]
  by_contra hge
  have heq := (List.monotone_filter_right (List.range 32) hsub).eq_of_length_le (Nat.le_of_not_lt hge)
  have hmem : p ∈ (List.range 32).filter fun i => (x &&& ~~~mask).getLsbD i := by
    rw [heq]
    simp [hp, hlt]
  simp [hm] at hmem

/-! ### What an event leaves unchanged: the configurations (R47) and the scratch -/

/-- The configurations of D, which REGISTER alone writes (R47). -/
def State.configs (s : State) : List Descriptor := s.descs.map Descriptor.config

theorem modDesc_configs {s : State} {h : Nat} {f : Descriptor → Descriptor} (hf : ∀ d, (f d).config = d.config) :
    (s.modDesc h f).configs = s.configs := by
  refine List.ext_getElem? fun k => ?_
  simp only [State.configs, List.getElem?_map, modDesc_getElem?]
  split
  · rw [Option.map_map]
    exact congrArg (fun g => s.descs[k]?.map g) (funext hf)
  · rfl

theorem setRaw_configs (h : Nat) (v : BitVec 2) (s : State) : (setRaw h v s).configs = s.configs :=
  modDesc_configs fun _ => rfl

theorem commit_configs (h : Nat) (v : BitVec 2) (s : State) : (commit h v s).configs = s.configs :=
  modDesc_configs fun _ => rfl

theorem setMachine_configs (h : Nat) (m : MachineState) (s : State) : (setMachine h m s).configs = s.configs :=
  modDesc_configs fun _ => rfl

theorem loadOpening_configs (h : Nat) (s : State) : (loadOpening h s).configs = s.configs :=
  modDesc_configs fun _ => rfl

theorem loadClosing_configs (h : Nat) (s : State) : (loadClosing h s).configs = s.configs :=
  modDesc_configs fun _ => rfl

theorem notify_configs (h : Nat) (s : State) : (notify h s).configs = s.configs := by
  rw [State.configs, notify_descs, State.configs]

@[simp] theorem notify_scratch (h : Nat) (s : State) : (notify h s).scratch = s.scratch := by rw [notify_frame]

theorem adsInsert_configs (h : Nat) (s : State) : (adsInsert h s).configs = s.configs :=
  modDesc_configs (f := fun d => { d with next := s.head }) fun _ => rfl

@[simp] theorem adsInsert_scratch (h : Nat) (s : State) : (adsInsert h s).scratch = s.scratch := rfl

theorem clearWork_configs (m : Word) (s : State) : (clearWork m s).configs = s.configs := rfl

theorem beginScan_configs (rx : Sample) (s : State) : (beginScan rx s).configs = s.configs := rfl

theorem runPb_configs (row : PbRow) (h : Nat) (s : State) : (runPb row h s).configs = s.configs := by
  cases row <;> simp only [runPb, pbOpenInstant, pbOpenImm, pbOpenSet, pbCloseInstant, pbCloseImm, pbCloseSet,
    pbExtendOpening, pbExtendClosing, pbNoneClosed, pbNoneOpen, commit_configs, setMachine_configs, loadOpening_configs,
    loadClosing_configs, notify_configs, adsInsert_configs]

theorem runPb_scratch (row : PbRow) (h : Nat) (s : State) : (runPb row h s).scratch = s.scratch := by
  cases row <;> simp [runPb, pbOpenInstant, pbOpenImm, pbOpenSet, pbCloseInstant, pbCloseImm, pbCloseSet,
    pbExtendOpening, pbExtendClosing, pbNoneClosed, pbNoneOpen]

theorem runPair_configs (row : PairRow) (h : Nat) (s : State) : (runPair row h s).configs = s.configs := by
  cases row <;> simp only [runPair, pairIgnore00, pairIgnore11, pairCommit01, pairSame01, pairCommit10, pairSame10,
    commit_configs, notify_configs]

theorem runPair_scratch (row : PairRow) (h : Nat) (s : State) : (runPair row h s).scratch = s.scratch := by
  cases row <;> simp [runPair, pairIgnore00, pairIgnore11, pairCommit01, pairSame01, pairCommit10, pairSame10]

theorem pbEvent_configs {h : Nat} {r : Bool} {s t : State} (ht : pbEvent h r s = .ok t) : t.configs = s.configs := by
  obtain ⟨d, -, rfl⟩ := pbEvent_ok.mp ht
  rw [runPb_configs]
  exact setRaw_configs h _ s

theorem pairEvent_configs {h : Nat} {rx : Sample} {s t : State} (ht : pairEvent h rx s = .ok t) :
    t.configs = s.configs := by
  obtain ⟨d, -, rfl⟩ := pairEvent_ok.mp ht
  rw [runPair_configs]
  exact setRaw_configs h _ s

theorem runDisp_configs {row : DispRow} {pos : Nat} {s t : State} (ht : runDisp row pos s = .ok t) :
    t.configs = s.configs := by
  cases row with
  | none => cases ht; rfl
  | pb =>
    obtain ⟨h, -, hu⟩ := runDispPb_ok.mp ht
    exact (pbEvent_configs hu).trans (clearWork_configs _ s)
  | pair =>
    obtain ⟨h, d, -, -, hu⟩ := runDispPair_ok.mp ht
    exact (pairEvent_configs hu).trans (clearWork_configs _ s)

theorem dispatchAt_configs {pos : Nat} {s t : State} (ht : dispatchAt pos s = .ok t) : t.configs = s.configs :=
  runDisp_configs (dispatchAt_ok.mp ht).2

theorem dispatchPrefix_configs (n : Nat) (dir : ScanDir) (s : State) :
    (dispatchPrefix n dir s).configs = s.configs := by
  fun_induction dispatchPrefix n dir s with
  | case1 | case2 | case3 => rfl
  | case4 n dir s pos _ u hu ih => exact ih.trans (dispatchAt_configs hu)

theorem ndesc_of_configs {s t : State} (hc : t.configs = s.configs) : t.ndesc = s.ndesc := by
  simpa [State.configs, ndesc_eq] using congrArg List.length hc

theorem reg_of_apartFromDebounce {s t : State} (ht : t.apartFromDebounce = s.apartFromDebounce) : t.reg = s.reg :=
  show t.apartFromDebounce.reg = s.apartFromDebounce.reg from congrArg State.reg ht

/-- What the debounce transitions write, written out. -/
theorem eq_of_apartFromDebounce {s t : State} (ht : t.apartFromDebounce = s.apartFromDebounce) :
    t = { s with descs := t.descs, pend := t.pend, head := t.head, scratch := t.scratch } :=
  congrArg (fun u : State => { u with descs := t.descs, pend := t.pend, head := t.head, scratch := t.scratch }) ht

/-! ### The registry invariant reads the registry and the configurations only -/

/-- Descriptor h of the one state stands in the other with the same configuration. -/
theorem getElem?_of_configs {s t : State} (hc : t.configs = s.configs) {h : Nat} {d : Descriptor}
    (hd : t.descs[h]? = some d) : ∃ e, s.descs[h]? = some e ∧ e.config = d.config := by
  have hs : s.descs[h]?.map Descriptor.config = some d.config := by
    rw [← List.getElem?_map, show s.descs.map Descriptor.config = t.descs.map Descriptor.config from hc.symm,
      List.getElem?_map, hd, Option.map_some]
  exact Option.map_eq_some_iff.mp hs

theorem owns_of_config {d e : Descriptor} (hc : e.config = d.config) {p : Nat} (ho : d.Owns p) : e.Owns p := by
  have : e.config.Owns p := hc ▸ ho
  exact this

theorem wiring_of_config {d e : Descriptor} (hc : e.config = d.config) :
    e.kind = d.kind ∧ e.bitPrimary = d.bitPrimary ∧ e.bitSecondary = d.bitSecondary :=
  ⟨show e.config.kind = d.config.kind by rw [hc], show e.config.bitPrimary = d.config.bitPrimary by rw [hc],
    show e.config.bitSecondary = d.config.bitSecondary by rw [hc]⟩

theorem registryInv_of_configs {s t : State} (hreg : t.reg = s.reg) (hc : t.configs = s.configs)
    (hs : s.RegistryInv) : t.RegistryInv where
  slots_le := by rw [nSlots_eq, hreg]; exact hs.slots_le
  owner p h := by
    rw [State.slot, hreg]
    refine (hs.owner p h).trans ⟨fun ⟨d, hd, ho⟩ => ?_, fun ⟨d, hd, ho⟩ => ?_⟩
    · obtain ⟨e, he, hce⟩ := getElem?_of_configs hc.symm hd
      exact ⟨e, he, owns_of_config hce ho⟩
    · obtain ⟨e, he, hce⟩ := getElem?_of_configs hc hd
      exact ⟨e, he, owns_of_config hce ho⟩
  in_range h d p hd ho := by
    obtain ⟨e, he, hce⟩ := getElem?_of_configs hc hd
    rw [nSlots_eq, hreg]
    exact hs.in_range h e p he (owns_of_config hce ho)
  distinct h d hd hk := by
    obtain ⟨e, he, hce⟩ := getElem?_of_configs hc hd
    obtain ⟨hkind, hbp, hbs⟩ := wiring_of_config hce
    rw [← hbp, ← hbs]
    exact hs.distinct h e he (hkind.trans hk)
  secondary h d hd hk := by
    obtain ⟨e, he, hce⟩ := getElem?_of_configs hc hd
    obtain ⟨hkind, -, hbs⟩ := wiring_of_config hce
    rw [← hbs]
    exact hs.secondary h e he (hkind.trans hk)

/-! ### One pass of the loop below N -/

theorem dispatchAt_beyond {s : State} {pos : Nat} (hpos : s.nSlots ≤ pos) :
    dispatchAt pos s = .error (.fatal .scanRange) := by
  rw [dispatchAt, if_pos hpos]

/-- What a pass of the loop for the scanned position `pos` clears from the working copy (R144 to R146): bits of the
registry's slots, the one at `pos` among them. -/
structure State.Clears (s t : State) (pos : Nat) (mask : Word) : Prop where
  work : t.scratch.work = s.scratch.work &&& ~~~mask
  here : mask.getLsbD pos = true
  below : ∀ p, mask.getLsbD p = true → p < s.nSlots

/-- A pass of the loop for a position below N completes, whoever owns the slot. -/
theorem runDisp_clears {s : State} {pos : Nat} (hs : s.RegistryInv) (hpos : pos < s.nSlots) :
    ∃ t mask, runDisp (decodeDisp (dispSelector s pos)) pos s = .ok t ∧ s.Clears t pos mask := by
  have h32 : pos < 32 := hpos.trans_le hs.slots_le
  have hsingle : ∀ p, (bitMask pos).getLsbD p = true → p < s.nSlots := by
    intro p hp
    obtain ⟨-, rfl⟩ : p < 32 ∧ p = pos := by simpa using hp
    exact hpos
  cases hslot : s.slot pos with
  | none =>
    rw [dispRow_of_empty hslot]
    exact ⟨_, bitMask pos, rfl, rfl, by simpa using h32, hsingle⟩
  | some h =>
    obtain ⟨d, hd, howns⟩ := (hs.owner pos h).mp hslot
    cases hk : d.kind with
    | pushbutton =>
      rw [dispRow_of_pushbutton hslot hd hk]
      refine ⟨_, bitMask pos, runDispPb_some hslot hd, ?_, by simpa using h32, hsingle⟩
      rw [runPb_scratch]
      rfl
    | pair =>
      rw [dispRow_of_pair hslot hd hk]
      have hmask (p : Nat) : (bitMask d.bitPrimary.toNat ||| bitMask d.bitSecondary.toNat).getLsbD p = true ↔
          p < 32 ∧ d.Owns p := by
        simp [Descriptor.Owns, hk, and_or_left]
      refine ⟨_, _, runDispPair_some hslot hd, ?_, (hmask pos).mpr ⟨h32, howns⟩,
        fun p hp => hs.in_range h d p hd ((hmask p).mp hp).2⟩
      rw [runPair_scratch]
      rfl

/-! ### The loop comes to a bit at or beyond N -/

/-- R143: with as many passes as bits are set, one of them at or beyond N, the loop is abandoned with SCAN_RANGE. -/
theorem dispatchLoop_scanRange {n : Nat} {dir : ScanDir} {s : State} {p : Nat} (hs : s.RegistryInv)
    (hn : popcount s.scratch.work ≤ n) (hp : s.nSlots ≤ p) (hbit : s.scratch.work.getLsbD p = true) :
    dispatchLoop n dir s = .error (.fatal .scanRange) := by
  induction n generalizing s with
  | zero => exact absurd (popcount_pos hbit) (Nat.not_lt_of_le hn)
  | succ n ih =>
    obtain ⟨pos, hscan⟩ := Option.ne_none_iff_exists'.mp (scan_ne_none (dir := dir) hbit)
    rw [dispatchLoop_pass hscan]
    by_cases hpos : pos < s.nSlots
    · obtain ⟨t, mask, hrun, hclears⟩ := runDisp_clears hs hpos
      have hpass : dispatchAt pos s = .ok t := dispatchAt_ok.mpr ⟨hpos, hrun⟩
      have hreg : t.reg = s.reg := reg_of_apartFromDebounce (dispatchAt_apartFromDebounce hpass)
      have hfewer : popcount t.scratch.work < popcount s.scratch.work :=
        hclears.work ▸ popcount_clear_lt (scan_sets hscan) hclears.here
      have hstays : t.scratch.work.getLsbD p = true := by
        have hkept : mask.getLsbD p = false :=
          Bool.eq_false_iff.mpr fun hm => absurd (hclears.below p hm) (Nat.not_lt_of_le hp)
        rw [hclears.work, BitVec.getLsbD_and, BitVec.getLsbD_not, hbit, hkept]
        simp [BitVec.lt_of_getLsbD hbit]
      have hbeyond : t.nSlots ≤ p := by rwa [nSlots_eq, hreg]
      simp only [hpass]
      exact ih (registryInv_of_configs hreg (dispatchAt_configs hpass) hs) (by omega) hbeyond hstays
    · simp only [dispatchAt_beyond (Nat.le_of_not_lt hpos)]

/-! ### XFER_DONE abandoned by Fatal(4) (R246) -/

theorem cycleSteps_scanRange {s : State} {rx : Sample} {p : Nat} (hs : s.RegistryInv) (hskip : s.skip = 0)
    (hp : s.nSlots ≤ p) (hne : s.prev.getLsbD p ≠ rx.getLsbD p) :
    cycleSteps rx s = .error (.fatal .scanRange) := by
  have hloop : dispatchLoop 32 s.params.scanDir (beginScan rx s) = .error (.fatal .scanRange) :=
    dispatchLoop_scanRange (registryInv_of_configs (beginScan_reg s rx) (beginScan_configs rx s) hs) (popcount_le _) hp
      (changedWord_bit hne)
  have hsample : sampleStep rx s = .error (.fatal .scanRange) := by
    simp [sampleStep, hskip, scanSample, hloop]
  simp [cycleSteps, hsample]

/-- Everything but D, HEAD, PEND, PREV, the scratch and the model's counter of draws is as before the step. -/
theorem scanRangeResidue_frame (rx : Sample) (s : State) : ∃ descs pend head prev, descs.length = s.ndesc ∧
    scanRangeResidue rx s = { s with
      descs := descs, pend := pend, head := head, prev := prev, scratch := Scratch.idle, draws := s.draws + 1 } := by
  rw [scanRangeResidue]
  generalize Config.haltDraw s.draws = d
  have hlen : (dispatchPrefix d.passes d.dir (beginScan rx s)).ndesc = s.ndesc :=
    ndesc_of_configs (dispatchPrefix_configs d.passes d.dir (beginScan rx s))
  have hwrites := eq_of_apartFromDebounce (dispatchPrefix_apartFromDebounce d.passes d.dir (beginScan rx s))
  rw [hwrites]
  exact ⟨_, _, _, _, hlen, rfl⟩

/-- Settles O45: the scan comes to the changed bit and raises Fatal(4), and of what R246 leaves open nothing is read. -/
theorem changeBeyondRegistryHalts : Obligations.ChangeBeyondRegistryHalts := by
  rintro s rx hinv hrun harmed hskip ⟨p, -, hp, hne⟩
  have habandoned := cycleSteps_scanRange (hinv.running hrun).registry hskip hp hne
  have hexec : exec (.xferDone rx) s = .next (raiseFatal .scanRange (scanRangeResidue rx s)) :=
    execXferDone_next.mpr ⟨hrun, harmed, .inr ⟨_, habandoned, rfl⟩⟩
  obtain ⟨descs, pend, head, prev, hlen, hresidue⟩ := scanRangeResidue_frame rx s
  have hnothalted : (scanRangeResidue rx s).halted = false := by
    rw [hresidue]
    exact hrun
  rw [raiseFatal_running _ hnothalted, hresidue] at hexec
  exact ⟨_, hexec, rfl, rfl, rfl, hlen, rfl, rfl, rfl, rfl, rfl, rfl⟩

end Sys2Proof.Machine
end

section
/-!
PROOFS. REGISTER and START (43_registration.md R150 to R158): which masks are refused, which check halts with which
code, that the checks do not read ARMED beyond LATE_REG, and what an accepted registration writes.
-/

namespace Sys2Proof.Machine

open Sys2Proof

/-! ### Malformed masks (R153) -/

theorem severalBits_eq_false_iff (m : Word) : severalBits m = false ↔ AtMostOneBit m := by
  rw [← Bool.not_eq_true, severalBits_iff_not_atMostOneBit, not_not]

theorem malformedMasks_eq_none_iff (mp ms : Word) (kind : Kind) :
    malformedMasks mp ms kind = none ↔
      (kind = .pushbutton → ms = 0#32) ∧ AtMostOneBit mp ∧ (kind = .pair → AtMostOneBit ms) := by
  rw [malformedMasks, ← severalBits_eq_false_iff, ← severalBits_eq_false_iff]
  split
  · next hkind => simp [hkind]
  · next hkind =>
    split
    · next hbits => rcases hbits with hp | ⟨hpair, hs⟩ <;> simp [*]
    · next hbits =>
      simp only [not_and, not_not, not_or, Bool.not_eq_true] at hkind hbits
      simpa using ⟨hkind, hbits⟩

theorem zeroMasked_iff (mp ms : Word) (kind : Kind) :
    zeroMasked mp ms kind = true ↔ mp = 0#32 ∨ kind = .pair ∧ ms = 0#32 := by
  simp [zeroMasked]

/-! ### The checks of REGISTER, in the order of R150 -/

section
variable {s : State} {mp ms : Word} {kind : Kind} {c : BitVec 4} {nv : Word} {mode : Mode} {dc dop : Ticks}

theorem registerSteps_malformed {r : Refusal} (hm : malformedMasks mp ms kind = some r) :
    registerSteps c nv mp ms kind mode dc dop s = .error (.refuse r) := by
  simp [registerSteps, hm]

theorem registerSteps_late (hm : malformedMasks mp ms kind = none) (harmed : s.armed = true)
    (hlate : s.params.lateReg = .fatal) :
    registerSteps c nv mp ms kind mode dc dop s = .error (.fatal .lateReg) := by
  simp [registerSteps, hm, harmed, hlate]

theorem registerSteps_zeroMask (hm : malformedMasks mp ms kind = none)
    (htime : s.armed = false ∨ s.params.lateReg = .allow) (hz : zeroMasked mp ms kind = true) :
    registerSteps c nv mp ms kind mode dc dop s = .error (.fatal .zeroMask) := by
  have hnotlate : ¬ (s.armed ∧ s.params.lateReg = .fatal) := by rcases htime with h | h <;> simp [h]
  simp [registerSteps, hm, if_neg hnotlate, hz]

/-- The allocation of step 6 neither reads nor writes ARMED. -/
theorem allocate_withArmed (d : Descriptor) (bp : Nat) (bs : Option Nat) (s : State) (b : Bool) :
    allocate d bp bs { s with armed := b } = { allocate d bp bs s with armed := b } := by
  cases bs <;> rfl

/-- With LATE_REG = ALLOW no check reads ARMED, and no write touches it (R151). -/
theorem registerSteps_withArmed (hallow : s.params.lateReg = .allow) (b : Bool) :
    registerSteps c nv mp ms kind mode dc dop { s with armed := b } =
      (registerSteps c nv mp ms kind mode dc dop s).map fun t => { t with armed := b } := by
  have hrange (bp bs) : outOfRange { s with armed := b } bp bs = outOfRange s bp bs := rfl
  have hdoubled (bp bs) : doubled { s with armed := b } bp bs = doubled s bp bs := rfl
  simp only [registerSteps, hallow, reduceCtorEq, and_false, if_false, hrange, hdoubled, allocate_withArmed]
  split
  · rfl
  split
  · rfl
  split
  · rfl
  split
  · rfl
  split
  · rfl
  split <;> rfl

/-! ### REGISTER while running -/

theorem exec_register_running (hrun : s.halted = false) :
    exec (.register c nv mp ms kind mode dc dop) s = finish s (registerSteps c nv mp ms kind mode dc dop s) :=
  whileRunning_running hrun

theorem exec_register_fatal (hrun : s.halted = false) {code : FatalCode}
    (hsteps : registerSteps c nv mp ms kind mode dc dop s = .error (.fatal code)) :
    exec (.register c nv mp ms kind mode dc dop) s = .next { s with halted := true, err := code.code } := by
  rw [exec_register_running hrun, hsteps, finish, raiseFatal_running _ hrun]

theorem exec_register_ok (hrun : s.halted = false) {t : State}
    (hsteps : registerSteps c nv mp ms kind mode dc dop s = .ok t) :
    exec (.register c nv mp ms kind mode dc dop) s = .next t := by
  rw [exec_register_running hrun, hsteps, finish]

theorem exec_register_refused (hrun : s.halted = false) {r : Refusal}
    (hsteps : registerSteps c nv mp ms kind mode dc dop s = .error (.refuse r)) :
    exec (.register c nv mp ms kind mode dc dop) s = .refused r := by
  rw [exec_register_running hrun, hsteps, finish]

end

/-! ### The statements -/

/-- Settles O12: the malformed masks are those R153 names, and a zero mask is the next check of a timely REGISTER. -/
theorem masksAreChecked : Obligations.MasksAreChecked := by
  intro s c nv mp ms kind mode dc dop hrun
  refine ⟨fun hbad => ?_, fun hpb hmp hms htime hzero => ?_⟩
  · have hm : malformedMasks mp ms kind ≠ none := by
      rw [Ne, malformedMasks_eq_none_iff]
      tauto
    obtain ⟨r, hr⟩ := Option.ne_none_iff_exists'.mp hm
    exact ⟨r, exec_register_refused hrun (registerSteps_malformed hr)⟩
  · have hm := (malformedMasks_eq_none_iff mp ms kind).mpr ⟨hpb, hmp, fun _ => hms⟩
    have hz := (zeroMasked_iff mp ms kind).mpr hzero
    exact exec_register_fatal hrun (registerSteps_zeroMask hm htime hz)

/-- Settles O13: with FATAL lateness is the check after the masks; with ALLOW nothing reads or writes ARMED. -/
theorem lateRegistration : Obligations.LateRegistration := by
  intro s c nv mp ms kind mode dc dop hrun harmed
  refine ⟨fun hfatal hpb hmp hms => ?_, fun hallow => ?_⟩
  · have hm := (malformedMasks_eq_none_iff mp ms kind).mpr ⟨hpb, hmp, fun _ => hms⟩
    exact exec_register_fatal hrun (registerSteps_late hm harmed hfatal)
  · obtain ⟨u, hu, hs⟩ : ∃ u : State, u = { s with armed := false } ∧ s = { u with armed := true } :=
      ⟨_, rfl, by rw [← harmed]⟩
    have hurun : u.halted = false := by rw [hu]; exact hrun
    have huallow : u.params.lateReg = .allow := by rw [hu]; exact hallow
    rw [← hu, exec_register_running hrun, exec_register_running hurun, hs,
      registerSteps_withArmed huallow]
    rcases registerSteps c nv mp ms kind mode dc dop u with (code | f | r) | t
    · simp [Except.map, finish, raiseFatal, hurun]
    · rfl
    · rfl
    · rfl

/-- Settles O14: a position out of range halts before REG is read at it, and only then is occupancy tested. -/
theorem rangeAndOccupancyAreChecked : Obligations.RangeAndOccupancyAreChecked := by
  intro s c nv p q mode dc dop hrun htime hp hq
  have hpb := registerSteps_pushbutton hp htime c nv mode dc dop
  have hpair := registerSteps_pair hp hq htime c nv mode dc dop
  refine ⟨fun hrange => ?_, fun hrange => ?_, fun hin hocc => ?_, fun hinp hinq hocc => ?_⟩
  · have ho : outOfRange s p none = true := (outOfRange_iff ..).mpr (.inl hrange)
    exact exec_register_fatal hrun (hpb.trans (if_pos ho))
  · have ho : outOfRange s p (some q) = true := (outOfRange_iff ..).mpr (by simpa using hrange)
    exact exec_register_fatal hrun (hpair.trans (if_pos ho))
  · have ho : ¬ outOfRange s p none = true := by simpa [outOfRange_iff] using hin
    have hd : doubled s p none = true := (doubled_iff ..).mpr (.inl hocc)
    exact exec_register_fatal hrun (hpb.trans ((if_neg ho).trans (if_pos hd)))
  · have ho : ¬ outOfRange s p (some q) = true := by simp [outOfRange_iff, hinp, hinq]
    have hd : doubled s p (some q) = true := by
      rw [doubled_iff]
      rcases hocc with rfl | hslot | hslot
      · exact .inr ⟨p, rfl, .inl rfl⟩
      · exact .inl hslot
      · exact .inr ⟨q, rfl, .inr hslot⟩
    exact exec_register_fatal hrun (hpair.trans ((if_neg ho).trans (if_pos hd)))

/-- Settles O11: on free slots no check fails, and step 6 writes the descriptor, the slots and the response. -/
theorem registerAllocates : Obligations.RegisterAllocates := by
  intro s c nv p q mode dc dop hrun htime hp hq hfree
  obtain ⟨hinp, hslotp⟩ := slot_of_reg hfree
  refine ⟨?_, fun hne hfreeq => ?_⟩
  · have ho : ¬ outOfRange s p none = true := by simpa [outOfRange_iff] using hinp
    have hd : ¬ doubled s p none = true := by simp [doubled_iff, hslotp]
    have hsteps := (registerSteps_pushbutton hp htime c nv mode dc dop).trans ((if_neg ho).trans (if_neg hd))
    exact exec_register_ok hrun hsteps
  · obtain ⟨hinq, hslotq⟩ := slot_of_reg hfreeq
    have ho : ¬ outOfRange s p (some q) = true := by simp [outOfRange_iff, hinp, hinq]
    have hd : ¬ doubled s p (some q) = true := by simp [doubled_iff, hslotp, hslotq, hne.symm]
    have hsteps := (registerSteps_pair hp hq htime c nv mode dc dop).trans ((if_neg ho).trans (if_neg hd))
    exact exec_register_ok hrun hsteps

/-- Settles O16: ARMED alone decides whether START issues the transfer or is refused. -/
theorem startIssuesFirstTransfer : Obligations.StartIssuesFirstTransfer := by
  intro s hrun
  have hstart : exec .start s =
      if s.armed then .refused .secondStart else .next (issueTransfer { s with armed := true }) :=
    whileRunning_running hrun
  refine ⟨fun hunarmed => ?_, fun harmed => ?_⟩
  · rw [hstart, hunarmed]
    rfl
  · rw [hstart, harmed]
    rfl

end Sys2Proof.Machine
end

section
/-!
PROOFS. The raw-change events that write (44_pushbutton_fsm.md R172 to R179): which PBEV row a Pushbutton selects, and
the two effects the rows are built from, the commit with its NOTIFY and the start of the debounce timer.
-/

namespace Sys2Proof.Machine

open Sys2Proof

section
variable {s : State} {h : Nat} {d : Descriptor}

/-! ### The row a Pushbutton selects (R94) -/

/-- The duration that z tests is that of the direction towards the level r. -/
theorem pbSelector_of_level {r : Bool} (hr : d.raw.getLsbD 0 = r) :
    pbSelector d = d.machineState.bits ++ BitVec.ofBool r ++
      BitVec.ofBool ((if r then d.durationOpening else d.durationClosing) == 0#16) ++ d.mode.bit := by
  subst hr
  rw [pbSelector, zeroDurationBit, levelBit]
  split <;> rfl

theorem pbRow_of_closed_readsOpen (hm : d.machineState = .closed) (hr : d.raw.getLsbD 0 = true) :
    decodePbev (pbSelector d) =
      if d.durationOpening = 0#16 then .openInstant else if d.mode = .immediate then .openImm else .openSet := by
  rw [pbSelector_of_level hr, hm, if_pos rfl]
  by_cases hdur : d.durationOpening = 0#16
  · rw [if_pos hdur, hdur]
    cases d.mode <;> rfl
  · rw [if_neg hdur, beq_false_of_ne hdur]
    cases d.mode <;> rfl

theorem pbRow_of_opened_readsClosed (hm : d.machineState = .opened) (hr : d.raw.getLsbD 0 = false) :
    decodePbev (pbSelector d) =
      if d.durationClosing = 0#16 then .closeInstant else if d.mode = .immediate then .closeImm else .closeSet := by
  rw [pbSelector_of_level hr, hm, if_neg Bool.false_ne_true]
  by_cases hdur : d.durationClosing = 0#16
  · rw [if_pos hdur, hdur]
    cases d.mode <;> rfl
  · rw [if_neg hdur, beq_false_of_ne hdur]
    cases d.mode <;> rfl

/-- R178: neither the level, nor the durations, nor the mode is consulted. -/
theorem pbRow_of_opening (hm : d.machineState = .opening) : decodePbev (pbSelector d) = .extendOpening := by
  rw [pbSelector, hm]
  cases levelBit d <;> cases zeroDurationBit d <;> cases d.mode <;> rfl

/-- R179: neither the level, nor the durations, nor the mode is consulted. -/
theorem pbRow_of_closing (hm : d.machineState = .closing) : decodePbev (pbSelector d) = .extendClosing := by
  rw [pbSelector, hm]
  cases levelBit d <;> cases zeroDurationBit d <;> cases d.mode <;> rfl

/-- The row that the Pushbutton selects completes, with what its effect comes to. -/
theorem exec_ofPb_of_row {row : PbRow} {t : State} (hrun : s.halted = false) (hd : s.descs[h]? = some d)
    (hk : d.kind = .pushbutton) (hrow : decodePbev (pbSelector d) = row) (heffect : runPb row h s = t) :
    exec (.ofPb row h) s = .next t := by
  subst hrow heffect
  exact exec_ofPb_selected hrun hd hk

/-! ### Commit, NOTIFY and insertion as one update of the descriptor -/

theorem notify_commit (h : Nat) (v : BitVec 2) (s : State) :
    notify h (commit h v s) = (notify h s).modDesc h fun d => { d with debounced := v } :=
  notify_modDesc h s _ fun _ => ⟨rfl, rfl⟩

/-- The write of D, and the OR into the consumer's word (R221). -/
theorem notify_modDesc_eq_set (f : Descriptor → Descriptor) (hd : s.descs[h]? = some d) :
    (notify h s).modDesc h f = { s.setPend d.consumer (s.pendOf d.consumer ||| d.notifyValue) with
      descs := s.descs.set h (f d) } := by
  rw [notify_some hd]
  exact modDesc_eq_set f hd

/-- A write of the descriptor and its insertion at the head of the set (R211). -/
theorem adsInsert_modDesc_eq_set (f : Descriptor → Descriptor) (hd : s.descs[h]? = some d) :
    adsInsert h (s.modDesc h f) = { s with descs := s.descs.set h { f d with next := s.head }, head := some h } := by
  rw [adsInsert_eq, modDesc_modDesc, modDesc_eq_set _ hd]
  rfl

theorem adsInsert_notify_modDesc_eq_set (f : Descriptor → Descriptor) (hd : s.descs[h]? = some d) :
    adsInsert h ((notify h s).modDesc h f) = { s.setPend d.consumer (s.pendOf d.consumer ||| d.notifyValue) with
      descs := s.descs.set h { f d with next := s.head }, head := some h } := by
  rw [notify_some hd]
  exact adsInsert_modDesc_eq_set f hd

end

/-! ### The rows (R172 to R177) -/

theorem setMachine_notify_commit (h : Nat) (v : BitVec 2) (m : MachineState) (s : State) :
    setMachine h m (notify h (commit h v s)) =
      (notify h s).modDesc h fun d => { d with debounced := v, machineState := m } := by
  rw [notify_commit]
  exact modDesc_modDesc ..

theorem pbOpenSet_eq (h : Nat) (s : State) :
    pbOpenSet h s = adsInsert h (s.modDesc h fun d =>
      { d with machineState := .opening, countdown := d.durationOpening }) :=
  congrArg (adsInsert h) (modDesc_modDesc ..)

theorem pbCloseSet_eq (h : Nat) (s : State) :
    pbCloseSet h s = adsInsert h (s.modDesc h fun d =>
      { d with machineState := .closing, countdown := d.durationClosing }) :=
  congrArg (adsInsert h) (modDesc_modDesc ..)

theorem pbOpenImm_eq (h : Nat) (s : State) :
    pbOpenImm h s = adsInsert h ((notify h s).modDesc h fun d =>
      { d with debounced := 1#2, machineState := .opening, countdown := d.durationOpening }) := by
  rw [pbOpenImm, setMachine_notify_commit]
  exact congrArg (adsInsert h) (modDesc_modDesc ..)

theorem pbCloseImm_eq (h : Nat) (s : State) :
    pbCloseImm h s = adsInsert h ((notify h s).modDesc h fun d =>
      { d with debounced := 0#2, machineState := .closing, countdown := d.durationClosing }) := by
  rw [pbCloseImm, setMachine_notify_commit]
  exact congrArg (adsInsert h) (modDesc_modDesc ..)

/-! ### The statements -/

/-- Settles O27: a zero duration selects INSTANT before the mode is looked at, and INSTANT commits and notifies. -/
theorem zeroDurationCommitsAtOnce : Obligations.ZeroDurationCommitsAtOnce := by
  intro s h d hrun hd hk
  refine ⟨fun hm hr hdur => ?_, fun hm hr hdur => ?_⟩
  · have hrow : decodePbev (pbSelector d) = .openInstant := by rw [pbRow_of_closed_readsOpen hm hr, if_pos hdur]
    exact exec_ofPb_of_row hrun hd hk hrow ((setMachine_notify_commit ..).trans (notify_modDesc_eq_set _ hd))
  · have hrow : decodePbev (pbSelector d) = .closeInstant := by rw [pbRow_of_opened_readsClosed hm hr, if_pos hdur]
    exact exec_ofPb_of_row hrun hd hk hrow ((setMachine_notify_commit ..).trans (notify_modDesc_eq_set _ hd))

/-- Settles O28: with a non-zero duration the mode selects IMM, which commits, notifies and starts the timer. -/
theorem immediateCommitsAndStartsTimer : Obligations.ImmediateCommitsAndStartsTimer := by
  intro s h d hrun hd hk hmode
  refine ⟨fun hm hr hdur => ?_, fun hm hr hdur => ?_⟩
  · have hrow : decodePbev (pbSelector d) = .openImm := by
      rw [pbRow_of_closed_readsOpen hm hr, if_neg hdur, if_pos hmode]
    exact exec_ofPb_of_row hrun hd hk hrow ((pbOpenImm_eq h s).trans (adsInsert_notify_modDesc_eq_set _ hd))
  · have hrow : decodePbev (pbSelector d) = .closeImm := by
      rw [pbRow_of_opened_readsClosed hm hr, if_neg hdur, if_pos hmode]
    exact exec_ofPb_of_row hrun hd hk hrow ((pbCloseImm_eq h s).trans (adsInsert_notify_modDesc_eq_set _ hd))

/-- Settles O29: with a non-zero duration the mode selects SET, which writes neither debounced nor PEND. -/
theorem settledOnlyStartsTimer : Obligations.SettledOnlyStartsTimer := by
  intro s h d hrun hd hk hmode
  have hnotimm : d.mode ≠ .immediate := by simp [hmode]
  refine ⟨fun hm hr hdur => ?_, fun hm hr hdur => ?_⟩
  · have hrow : decodePbev (pbSelector d) = .openSet := by
      rw [pbRow_of_closed_readsOpen hm hr, if_neg hdur, if_neg hnotimm]
    exact exec_ofPb_of_row hrun hd hk hrow ((pbOpenSet_eq h s).trans (adsInsert_modDesc_eq_set _ hd))
  · have hrow : decodePbev (pbSelector d) = .closeSet := by
      rw [pbRow_of_opened_readsClosed hm hr, if_neg hdur, if_neg hnotimm]
    exact exec_ofPb_of_row hrun hd hk hrow ((pbCloseSet_eq h s).trans (adsInsert_modDesc_eq_set _ hd))

/-- Settles O30: in a timer state the row does not depend on the level, and it writes the countdown alone. -/
theorem bounceExtendsTimer : Obligations.BounceExtendsTimer := by
  intro s h d hrun hd hk
  refine ⟨fun hm => ?_, fun hm => ?_⟩
  · exact exec_ofPb_of_row hrun hd hk (pbRow_of_opening hm) (modDesc_eq_set _ hd)
  · exact exec_ofPb_of_row hrun hd hk (pbRow_of_closing hm) (modDesc_eq_set _ hd)

end Sys2Proof.Machine
end

section
/-!
PROOFS. The switch-pair rows (45_pair_logic.md R203, R204): which PAIR row a code selects, and the commit with its
NOTIFY.
-/

namespace Sys2Proof.Machine

open Sys2Proof

section
variable {s : State} {h : Nat} {d : Descriptor}

/-! ### The row a Pair selects (R201) -/

/-- R203: e is not consulted. -/
theorem pairRow_of_raw00 (hraw : d.raw = 0b00#2) : decodePair (pairSelector d) = .ignore00 := by
  rw [pairSelector, hraw]
  cases sameCodeBit d <;> rfl

/-- R203: e is not consulted. -/
theorem pairRow_of_raw11 (hraw : d.raw = 0b11#2) : decodePair (pairSelector d) = .ignore11 := by
  rw [pairSelector, hraw]
  cases sameCodeBit d <;> rfl

/-- e by the comparison it stands for. -/
theorem pairSelector_eq_ite (d : Descriptor) :
    pairSelector d = d.raw ++ if d.raw = d.debounced then 1#1 else 0#1 := by
  rw [pairSelector, sameCodeBit]
  split
  · next hsame => rw [beq_iff_eq.mpr hsame]; rfl
  · next hnew => rw [beq_false_of_ne hnew]; rfl

theorem pairRow_of_raw01 (hraw : d.raw = 0b01#2) :
    decodePair (pairSelector d) = if 0b01#2 = d.debounced then .same01 else .commit01 := by
  rw [pairSelector_eq_ite, hraw]
  split <;> rfl

theorem pairRow_of_raw10 (hraw : d.raw = 0b10#2) :
    decodePair (pairSelector d) = if 0b10#2 = d.debounced then .same10 else .commit10 := by
  rw [pairSelector_eq_ite, hraw]
  split <;> rfl

/-- The row that the Pair selects completes, with what its effect comes to. -/
theorem exec_ofPair_of_row {row : PairRow} {t : State} (hrun : s.halted = false) (hd : s.descs[h]? = some d)
    (hk : d.kind = .pair) (hrow : decodePair (pairSelector d) = row) (heffect : runPair row h s = t) :
    exec (.ofPair row h) s = .next t := by
  subst hrow heffect
  exact exec_ofPair_selected hrun hd hk

/-- R204: the commit writes `debounced`, and the NOTIFY the consumer's word, and nothing else. -/
theorem notify_commit_eq_set (v : BitVec 2) (hd : s.descs[h]? = some d) :
    notify h (commit h v s) = { s.setPend d.consumer (s.pendOf d.consumer ||| d.notifyValue) with
      descs := s.descs.set h { d with debounced := v } } :=
  (notify_commit h v s).trans (notify_modDesc_eq_set _ hd)

end

/-! ### The statements -/

/-- Settles O35: an indeterminate code selects its IGNORE row whatever is committed, and that row writes nothing. -/
theorem indeterminateCodeIsIgnored : Obligations.IndeterminateCodeIsIgnored := by
  intro s h d hrun hd hk
  refine ⟨fun hraw => ?_, fun hraw => ?_⟩
  · exact exec_ofPair_of_row hrun hd hk (pairRow_of_raw00 hraw) rfl
  · exact exec_ofPair_of_row hrun hd hk (pairRow_of_raw11 hraw) rfl

/-- Settles O36: a definite code selects COMMIT, which commits and notifies, or SAME, which writes nothing, by whether
it differs from `debounced`. -/
theorem definiteCodeCommitsIfNew : Obligations.DefiniteCodeCommitsIfNew := by
  intro s h d hrun hd hk
  refine ⟨fun hraw hnew => ?_, fun hraw hnew => ?_, fun hraw hsame => ?_, fun hraw hsame => ?_⟩
  · have hrow : decodePair (pairSelector d) = .commit01 := by rw [pairRow_of_raw01 hraw, if_neg (Ne.symm hnew)]
    exact exec_ofPair_of_row hrun hd hk hrow (notify_commit_eq_set _ hd)
  · have hrow : decodePair (pairSelector d) = .commit10 := by rw [pairRow_of_raw10 hraw, if_neg (Ne.symm hnew)]
    exact exec_ofPair_of_row hrun hd hk hrow (notify_commit_eq_set _ hd)
  · have hrow : decodePair (pairSelector d) = .same01 := by rw [pairRow_of_raw01 hraw, if_pos hsame.symm]
    exact exec_ofPair_of_row hrun hd hk hrow rfl
  · have hrow : decodePair (pairSelector d) = .same10 := by rw [pairRow_of_raw10 hraw, if_pos hsame.symm]
    exact exec_ofPair_of_row hrun hd hk hrow rfl

end Sys2Proof.Machine
end

section
/-!
PROOFS. The consumer's view (47_notification.md R222, R225): what RDDEB answers, and that the bits of PEND last until
TAKE, since every write of PEND but TAKE's and RESET's is NOTIFY's OR.
-/

namespace Sys2Proof.Machine

open Sys2Proof

/-! ### RDDEB and START, when they answer -/

/-- R225: RDDEB completes for the handles of descriptors alone. -/
theorem execRddeb_next {h : Nat} {s t : State} :
    execRddeb h s = .next t ↔ s.halted = false ∧ ∃ d, s.descs[h]? = some d ∧
      t = respond (d.debounced.setWidth 32) s := by
  rw [execRddeb, whileRunning_next]
  refine and_congr_right fun _ => ?_
  split
  · next hd => simp [hd]
  · next d hd => simp [hd, eq_comm]

/-- R158: START completes only before it has armed the driver. -/
theorem execStart_next {s t : State} :
    execStart s = .next t ↔ s.halted = false ∧ s.armed = false ∧ t = issueTransfer { s with armed := true } := by
  rw [execStart, whileRunning_next]
  refine and_congr_right fun _ => ?_
  split
  · next harmed => simp [harmed]
  · next harmed => simp [harmed, eq_comm]

/-- Settles O18: an existing handle is looked up and answered, any other refused. -/
theorem rddebReturnsCommittedValue : Obligations.RddebReturnsCommittedValue := by
  intro s h hrun
  refine ⟨fun d hd => ?_, fun hn => ?_⟩
  · exact execRddeb_next.mpr ⟨hrun, d, hd, rfl⟩
  · exact execRddeb_unknownHandle hrun hn

/-! ### Pending bits that last -/

/-- Every bit pending in the one state, for whichever consumer, is pending in the other (R222). -/
def State.PendingLasts (s t : State) : Prop := ∀ c, s.pendOf c ||| t.pendOf c = t.pendOf c

namespace State.PendingLasts

theorem of_pend {s t : State} (hp : t.pend = s.pend) : s.PendingLasts t := by
  intro c
  rw [State.pendOf, State.pendOf, hp, BitVec.or_self]

theorem refl (s : State) : s.PendingLasts s := of_pend rfl

theorem trans {s t u : State} (hst : s.PendingLasts t) (htu : t.PendingLasts u) : s.PendingLasts u := by
  intro c
  rw [← htu c, ← BitVec.or_assoc, hst c]

end State.PendingLasts

/-! ### The debounce transitions: each leaves PEND alone or ends in the NOTIFY of a commit -/

theorem notify_commit_pendingLasts (h : Nat) (v : BitVec 2) (s : State) :
    s.PendingLasts (notify h (commit h v s)) := notify_pendOf_or h (commit h v s)

theorem adsUnlink_pend (cur : Nat) (p nxt : Option Nat) (s : State) : (adsUnlink cur p nxt s).pend = s.pend := by
  cases p <;> rfl

theorem runPb_pendingLasts (row : PbRow) (h : Nat) (s : State) : s.PendingLasts (runPb row h s) := by
  cases row with
  | openInstant | openImm => exact notify_commit_pendingLasts h 1#2 s
  | closeInstant | closeImm => exact notify_commit_pendingLasts h 0#2 s
  | openSet | closeSet | extendOpening | extendClosing | noneClosed | noneOpen => exact .of_pend rfl

theorem runSettle_pendingLasts (row : SettleRow) (h : Nat) (s : State) : s.PendingLasts (runSettle row h s) := by
  cases row with
  | openingConfirmSet | closingBounceImm => exact notify_commit_pendingLasts h 1#2 (setMachine h .opened s)
  | openingBounceImm | closingConfirmSet => exact notify_commit_pendingLasts h 0#2 (setMachine h .closed s)
  | openingConfirmImm | openingBounceSet | closingConfirmImm | closingBounceSet => exact .of_pend rfl

theorem runPair_pendingLasts (row : PairRow) (h : Nat) (s : State) : s.PendingLasts (runPair row h s) := by
  cases row with
  | commit01 => exact notify_commit_pendingLasts h 0b01#2 s
  | commit10 => exact notify_commit_pendingLasts h 0b10#2 s
  | ignore00 | ignore11 | same01 | same10 => exact .refl s

theorem pbEvent_pendingLasts {h : Nat} {r : Bool} {s t : State} (ht : pbEvent h r s = .ok t) : s.PendingLasts t := by
  obtain ⟨d, -, rfl⟩ := pbEvent_ok.mp ht
  exact runPb_pendingLasts _ h (setRaw h (levelCode r) s)

theorem pairEvent_pendingLasts {h : Nat} {rx : Sample} {s t : State} (ht : pairEvent h rx s = .ok t) :
    s.PendingLasts t := by
  obtain ⟨d, -, rfl⟩ := pairEvent_ok.mp ht
  exact runPair_pendingLasts _ h (setRaw h (pairCode d rx) s)

theorem settle_pendingLasts {h : Nat} {s t : State} (ht : settle h s = .ok t) : s.PendingLasts t := by
  obtain ⟨d, row, -, -, rfl⟩ := settle_ok.mp ht
  exact runSettle_pendingLasts row h s

/-- R214: the settle notifies; the countdown before it and the unlinking after it leave PEND alone. -/
theorem tickExpire_pendingLasts {cur : Nat} {s t : State} (ht : tickExpire cur s = .ok t) : s.PendingLasts t := by
  obtain ⟨d, u, -, hu, rfl⟩ := tickExpire_ok.mp ht
  have hsettle := settle_pendingLasts hu
  exact hsettle.trans (.of_pend (adsUnlink_pend ..))

theorem runTick_pendingLasts {row : TickRow} {h : Nat} {s t : State} (ht : runTick row h s = .ok t) :
    s.PendingLasts t := by
  cases row with
  | hold => cases ht; exact .of_pend rfl
  | expire => exact tickExpire_pendingLasts ht

theorem runDisp_pendingLasts {row : DispRow} {pos : Nat} {s t : State} (ht : runDisp row pos s = .ok t) :
    s.PendingLasts t := by
  cases row with
  | none => cases ht; exact .of_pend rfl
  | pb =>
    obtain ⟨h, -, hu⟩ := runDispPb_ok.mp ht
    have hevent := pbEvent_pendingLasts hu
    exact hevent
  | pair =>
    obtain ⟨h, d, -, -, hu⟩ := runDispPair_ok.mp ht
    have hevent := pairEvent_pendingLasts hu
    exact hevent

/-! ### The loops: the dispatch, the passes of it that stand after Fatal(4), and the tick walk -/

theorem dispatchAt_pendingLasts {pos : Nat} {s t : State} (ht : dispatchAt pos s = .ok t) : s.PendingLasts t :=
  runDisp_pendingLasts (dispatchAt_ok.mp ht).2

theorem dispatchLoop_pendingLasts {n : Nat} {dir : ScanDir} {s t : State} (ht : dispatchLoop n dir s = .ok t) :
    s.PendingLasts t := by
  fun_induction dispatchLoop n dir s with
  | case1 | case3 => cases ht; exact .refl _
  | case2 | case4 => cases ht
  | case5 n dir s pos _ u hu ih => exact (dispatchAt_pendingLasts hu).trans (ih ht)

/-- The passes that stand after Fatal(4) (R246) are passes of the loop. -/
theorem dispatchPrefix_pendingLasts (n : Nat) (dir : ScanDir) (s : State) :
    s.PendingLasts (dispatchPrefix n dir s) := by
  fun_induction dispatchPrefix n dir s with
  | case1 | case2 | case3 => exact .refl _
  | case4 n dir s pos _ u hu ih => exact (dispatchAt_pendingLasts hu).trans ih

theorem tickWalk_pendingLasts {n : Nat} {cur : Option Nat} {s t : State} (ht : tickWalk n cur s = .ok t) :
    s.PendingLasts t := by
  fun_induction tickWalk n cur s with
  | case1 => cases ht; exact .refl _
  | case2 | case3 | case5 => cases ht
  | case4 n cur s d _ _ ih => exact ih ht
  | case6 n cur s d _ _ u hu ih => exact (tickExpire_pendingLasts hu).trans (ih ht)

theorem tick_pendingLasts {s t : State} (ht : tick s = .ok t) : s.PendingLasts t := by
  obtain ⟨u, hu, rfl⟩ := tick_ok.mp ht
  have hwalk := tickWalk_pendingLasts hu
  exact hwalk

/-! ### The scan cycle (R121) -/

theorem sampleStep_pendingLasts {rx : Sample} {s t : State} (ht : sampleStep rx s = .ok t) : s.PendingLasts t := by
  rw [sampleStep] at ht
  split at ht
  · cases ht; exact .of_pend rfl
  · obtain ⟨u, hu, rfl⟩ := scanSample_ok.mp ht
    have hloop := dispatchLoop_pendingLasts hu
    exact hloop

theorem countStep_pendingLasts {s t : State} (ht : countStep s = .ok t) : s.PendingLasts t := by
  unfold countStep at ht
  split at ht
  · have htick := tick_pendingLasts ht
    exact htick
  · cases ht; exact .of_pend rfl

theorem scanRangeResidue_pendingLasts (rx : Sample) (s : State) : s.PendingLasts (scanRangeResidue rx s) :=
  dispatchPrefix_pendingLasts _ _ (beginScan rx s)

theorem raiseFatal_pend (code : FatalCode) (s : State) : (raiseFatal code s).pend = s.pend := by
  rw [raiseFatal]
  split <;> rfl

/-- A cycle that ends, or the part of one that Fatal(4) leaves. -/
theorem execXferDone_pendingLasts {rx : Sample} {s t : State} (ht : execXferDone rx s = .next t) :
    s.PendingLasts t := by
  obtain ⟨-, -, hc | ⟨code, -, rfl⟩⟩ := execXferDone_next.mp ht
  · obtain ⟨u, v, hu, hv, rfl⟩ := cycleSteps_ok.mp hc
    have hcycle := (sampleStep_pendingLasts hu).trans (countStep_pendingLasts hv)
    exact hcycle
  · exact (scanRangeResidue_pendingLasts rx s).trans (.of_pend (raiseFatal_pend ..))

/-! ### The commands -/

/-- The halt in `s` leaves PEND alone, so an operation keeps what its completed effect keeps. -/
theorem finish_pendingLasts {s t : State} {r : Except Abort State} (hr : ∀ u, r = .ok u → s.PendingLasts u)
    (ht : finish s r = .next t) : s.PendingLasts t := by
  rcases finish_next.mp ht with hu | ⟨code, -, rfl⟩
  · exact hr t hu
  · exact .of_pend (raiseFatal_pend code s)

theorem allocate_pend (d : Descriptor) (bp : Nat) (bs : Option Nat) (s : State) :
    (allocate d bp bs s).pend = s.pend := by cases bs <;> rfl

theorem registerSteps_pendingLasts {c : BitVec 4} {nv mp ms : Word} {kind : Kind} {mode : Mode} {dc dop : Ticks}
    {s t : State} (ht : registerSteps c nv mp ms kind mode dc dop s = .ok t) : s.PendingLasts t := by
  obtain ⟨-, -, -, bp, bs, -, -, -, -, rfl⟩ := registerSteps_ok.mp ht
  exact .of_pend (allocate_pend _ bp bs s)

/-- R226: TAKE clears the word of its own consumer only. -/
theorem execTake_pendOf_other {b c : BitVec 4} {s t : State} (hbc : b ≠ c) (ht : execTake b s = .next t) :
    t.pendOf c = s.pendOf c := by
  cases (whileRunning_next.mp ht).2
  exact pendOf_setPend_other s 0#32 hbc

/-! ### The statement -/

/-- R222: TAKE and RESET aside, an operation clears no pending bit of any consumer. -/
theorem exec_pendingLasts {i : Instr} {s t : State} (ht : exec i s = .next t) (hreset : i ≠ .reset)
    (htake : ∀ b, i ≠ .take b) : s.PendingLasts t := by
  cases i using instr_cases_by_row with
  | reset => exact absurd rfl hreset
  | register c nv mp ms kind mode dc dop =>
    exact finish_pendingLasts (fun _ => registerSteps_pendingLasts) (whileRunning_next.mp ht).2
  | start =>
    obtain ⟨-, -, rfl⟩ := execStart_next.mp ht
    exact .of_pend rfl
  | setout w => cases (whileRunning_next.mp ht).2; exact .of_pend rfl
  | rddeb h =>
    obtain ⟨-, d, -, rfl⟩ := execRddeb_next.mp ht
    exact .of_pend rfl
  | take b => exact absurd rfl (htake b)
  | xferDone rx => exact execXferDone_pendingLasts ht
  | disp row pos =>
    obtain ⟨-, -, -, hf⟩ := fireDisp_next.mp (exec_ofDisp row pos s ▸ ht)
    exact finish_pendingLasts (fun _ => runDisp_pendingLasts) hf
  | pb row h =>
    obtain ⟨-, d, -, -, -, rfl⟩ := firePb_next.mp (exec_ofPb row h s ▸ ht)
    exact runPb_pendingLasts row h s
  | settle row h =>
    obtain ⟨-, d, -, -, rfl⟩ := fireSettle_next.mp (exec_ofSettle row h s ▸ ht)
    exact runSettle_pendingLasts row h s
  | pair row h =>
    obtain ⟨-, d, -, -, -, rfl⟩ := firePair_next.mp (exec_ofPair row h s ▸ ht)
    exact runPair_pendingLasts row h s
  | tick row h =>
    obtain ⟨-, d, -, -, hf⟩ := fireTick_next.mp (exec_ofTick row h s ▸ ht)
    exact finish_pendingLasts (fun _ => runTick_pendingLasts) hf

/-- Settles O48: a TAKE of another consumer leaves this word as it is, and any other operation only adds bits. -/
theorem pendingBitsLastUntilTake : Obligations.PendingBitsLastUntilTake := by
  intro i s t c ht hreset htake
  by_cases hother : ∃ b, i = .take b
  · obtain ⟨b, rfl⟩ := hother
    have hbc : b ≠ c := fun h => htake (congrArg Instr.take h)
    rw [execTake_pendOf_other hbc ht, BitVec.or_self]
  · exact exec_pendingLasts ht hreset (not_exists.mp hother) c

end Sys2Proof.Machine
end

section
/-!
PROOFS. RESET (70_reset_and_hazards.md R270): the words of R48 that are read through an index, after power-up and so
after RESET.
-/

namespace Sys2Proof.Machine

open Sys2Proof

/-- R48: REG[p] is none for every p, a slot or not. -/
@[simp] theorem powerUp_slot (params : Params) (n p : Nat) : (State.powerUp params n).slot p = none := by
  rw [State.slot, State.powerUp, List.getElem?_replicate]
  split <;> rfl

/-- R48: every PEND word is 0. -/
@[simp] theorem powerUp_pendOf (params : Params) (n : Nat) (c : BitVec 4) :
    (State.powerUp params n).pendOf c = 0#32 :=
  Vector.getElem_replicate c.isLt

/-- Settles O9: RESET is the power-up of R48 under the state's own parameters, whatever the state was. -/
theorem resetGivesResetValues : Obligations.ResetGivesResetValues := fun s =>
  have hslot := powerUp_slot s.params s.nSlots
  have hpend := powerUp_pendOf s.params s.nSlots
  ⟨_, rfl, rfl, rfl, rfl, rfl, rfl, rfl, hslot, rfl, rfl, rfl, rfl, hpend, rfl⟩

end Sys2Proof.Machine
end

section
/-!
PROOFS. The decoder and the encoder (30_encoding.md R80 to R94): the rows of the opcode map, the fields of a header and
of the words after it, and the two round trips.
-/

namespace Sys2Proof

/-! ### The opcode map (R92) -/

/-- Settles O4: no two rows have a common header, because the `op` bits of all masks are set and their values differ. -/
theorem headerSelectsOneRow : Obligations.HeaderSelectsOneRow := by
  intro w r q hr hq hwr hwq
  have hmasked : r.value &&& q.mask = q.value &&& r.mask := by
    rw [← hwr, ← hwq, BitVec.and_assoc, BitVec.and_assoc, BitVec.and_comm r.mask]
  have hrows : ∀ r ∈ cmdRows, ∀ q ∈ cmdRows, r.value &&& q.mask = q.value &&& r.mask → r = q := by decide
  exact hrows r hr q hq hmasked

/-- Settles O6: the decoder is evaluated on each frame. -/
theorem wordsOfTheSpecDecode : Obligations.WordsOfTheSpecDecode :=
  ⟨rfl, rfl, rfl, rfl, rfl, rfl, rfl, rfl⟩

/-! ### Headers (R86) -/

theorem cmdRowOf_registerHeader (c : BitVec 4) (kind : Kind) (mode : Mode) :
    cmdRowOf (encodeHeader 1#4 c mode.bit kind.bit 0#8) = some ⟨.register, 0x10000000#32, 0xF0FCFFFF#32⟩ := by
  revert c
  cases kind <;> cases mode <;> decide

theorem registerHeader_fields (c : BitVec 4) (kind : Kind) (mode : Mode) :
    (encodeHeader 1#4 c mode.bit kind.bit 0#8).extractLsb' 24 4 = c ∧
    Kind.ofBool ((encodeHeader 1#4 c mode.bit kind.bit 0#8).getLsbD 16) = kind ∧
    Mode.ofBool ((encodeHeader 1#4 c mode.bit kind.bit 0#8).getLsbD 17) = mode := by
  revert c
  cases kind <;> cases mode <;> decide

theorem encodeHeader_rddeb (h : BitVec 8) : encodeHeader 4#4 0#4 0#1 0#1 h = 0x40#8 ++ 0#16 ++ h := by
  revert h
  decide

theorem cmdRowOf_takeHeader (c : BitVec 4) :
    cmdRowOf (encodeHeader 5#4 c 0#1 0#1 0#8) = some ⟨.take, 0x50000000#32, 0xF0FFFFFF#32⟩ := by
  revert c
  decide

theorem takeHeader_consumer (c : BitVec 4) : (encodeHeader 5#4 c 0#1 0#1 0#8).extractLsb' 24 4 = c := by
  revert c
  decide

/-! ### The packets: decoding after encoding -/

theorem decode_registerPacket (c : BitVec 4) (nv mp ms : Word) (kind : Kind) (mode : Mode) (dc dop : Ticks) :
    decode (encode (.register c nv mp ms kind mode dc dop)) = .ok (.register c nv mp ms kind mode dc dop) := by
  obtain ⟨hc, hkind, hmode⟩ := registerHeader_fields c kind mode
  have hdc : (dop ++ dc).extractLsb' 0 16 = dc := BitVec.extractLsb'_append_eq_right
  have hdop : (dop ++ dc).extractLsb' 16 16 = dop := BitVec.extractLsb'_append_eq_left
  simp only [encode, decode, decodePacket, decodeCmd, cmdRowOf_registerHeader, hc, hkind, hmode, hdc, hdop]

theorem decode_setoutPacket (w : Sample) : decode (encode (.setout w)) = .ok (.setout w) := by
  have hrow : cmdRowOf (encodeHeader 3#4 0#4 0#1 0#1 0#8) = some ⟨.setout, 0x30000000#32, 0xFFFFFFFF#32⟩ := rfl
  have hlow : (0#16 ++ w).extractLsb' 0 16 = w := BitVec.extractLsb'_append_eq_right
  have hhigh : (0#16 ++ w).extractLsb' 16 16 = 0#16 := BitVec.extractLsb'_append_eq_left
  simp only [encode, decode, decodePacket, decodeCmd, hrow, hlow, hhigh, if_true]

theorem decode_takePacket (c : BitVec 4) : decode (encode (.take c)) = .ok (.take c) := by
  simp only [encode, decode, decodePacket, decodeCmd, cmdRowOf_takeHeader, takeHeader_consumer]

theorem decode_rddebPacket {h : Nat} (hfits : h < 256) : decode (encode (.rddeb h)) = .ok (.rddeb h) := by
  have hh : (BitVec.ofNat 8 h).toNat = h := Nat.mod_eq_of_lt hfits
  rw [encode, encodeHeader_rddeb, decode_rddeb, hh]

/-! ### The selectors: decoding after encoding -/

theorem decode_encode_ofDisp (row : DispRow) {pos : Nat} (hfits : pos < 32) :
    decode (encode (.ofDisp row pos)) = .ok (.ofDisp row pos) := by
  have hpos : (BitVec.ofNat 5 pos).toNat = pos := Nat.mod_eq_of_lt hfits
  cases row <;> simp only [Instr.ofDisp, encode, decode, hpos] <;> rfl

theorem decode_encode_ofPb (row : PbRow) {h : Nat} (hfits : h < 256) :
    decode (encode (.ofPb row h)) = .ok (.ofPb row h) := by
  have hh : (BitVec.ofNat 8 h).toNat = h := Nat.mod_eq_of_lt hfits
  cases row <;> simp only [Instr.ofPb, encode, decode, hh] <;> rfl

theorem decode_encode_ofSettle (row : SettleRow) {h : Nat} (hfits : h < 256) :
    decode (encode (.ofSettle row h)) = .ok (.ofSettle row h) := by
  have hh : (BitVec.ofNat 8 h).toNat = h := Nat.mod_eq_of_lt hfits
  have hrow : ∃ sel, encode (.ofSettle row h) = .setl sel (BitVec.ofNat 8 h) ∧ decodeSetl sel = some row := by
    cases row <;> exact ⟨_, rfl, rfl⟩
  obtain ⟨sel, henc, hsel⟩ := hrow
  simp only [henc, decode, hsel, hh]

theorem decode_encode_ofPair (row : PairRow) {h : Nat} (hfits : h < 256) :
    decode (encode (.ofPair row h)) = .ok (.ofPair row h) := by
  have hh : (BitVec.ofNat 8 h).toNat = h := Nat.mod_eq_of_lt hfits
  cases row <;> simp only [Instr.ofPair, encode, decode, hh] <;> rfl

theorem decode_encode_ofTick (row : TickRow) {h : Nat} (hfits : h < 256) :
    decode (encode (.ofTick row h)) = .ok (.ofTick row h) := by
  have hh : (BitVec.ofNat 8 h).toNat = h := Nat.mod_eq_of_lt hfits
  cases row <;> simp only [Instr.ofTick, encode, decode, hh] <;> rfl

/-! ### Which arguments fit (R86, R9) -/

theorem wellFormed_ofDisp (row : DispRow) (pos : Nat) : (Instr.ofDisp row pos).WellFormed = true ↔ pos < 32 := by
  cases row <;> exact decide_eq_true_iff

theorem wellFormed_ofPb (row : PbRow) (h : Nat) : (Instr.ofPb row h).WellFormed = true ↔ h < 256 := by
  cases row <;> exact decide_eq_true_iff

theorem wellFormed_ofSettle (row : SettleRow) (h : Nat) : (Instr.ofSettle row h).WellFormed = true ↔ h < 256 := by
  cases row <;> exact decide_eq_true_iff

theorem wellFormed_ofPair (row : PairRow) (h : Nat) : (Instr.ofPair row h).WellFormed = true ↔ h < 256 := by
  cases row <;> exact decide_eq_true_iff

theorem wellFormed_ofTick (row : TickRow) (h : Nat) : (Instr.ofTick row h).WellFormed = true ↔ h < 256 := by
  cases row <;> exact decide_eq_true_iff

/-- Settles O1: in each format every field is read back from the bits it was written to. -/
theorem decodeEncodeAgree : Obligations.DecodeEncodeAgree := by
  intro i hfits
  cases i using Machine.instr_cases_by_row with
  | reset | start | xferDone rx => rfl
  | register c nv mp ms kind mode dc dop => exact decode_registerPacket c nv mp ms kind mode dc dop
  | setout w => exact decode_setoutPacket w
  | rddeb h => exact decode_rddebPacket (of_decide_eq_true hfits)
  | take c => exact decode_takePacket c
  | disp row pos => exact decode_encode_ofDisp row ((wellFormed_ofDisp row pos).mp hfits)
  | pb row h => exact decode_encode_ofPb row ((wellFormed_ofPb row h).mp hfits)
  | settle row h => exact decode_encode_ofSettle row ((wellFormed_ofSettle row h).mp hfits)
  | pair row h => exact decode_encode_ofPair row ((wellFormed_ofPair row h).mp hfits)
  | tick row h => exact decode_encode_ofTick row ((wellFormed_ofTick row h).mp hfits)

/-! ### The packets: what an accepted one holds -/

/-- R88, R89, R93: the five packets the decoder accepts, each with the row its header selects. -/
theorem decodePacket_ok {ws : List Word} {i : Instr} (hok : decodePacket ws = .ok i) :
    ∃ w rest r, ws = w :: rest ∧ cmdRowOf w = some r ∧
      ((∃ nv mp ms d, r.op = .register ∧ rest = [nv, mp, ms, d] ∧
          i = .register (w.extractLsb' 24 4) nv mp ms (Kind.ofBool (w.getLsbD 16)) (Mode.ofBool (w.getLsbD 17))
            (d.extractLsb' 0 16) (d.extractLsb' 16 16)) ∨
        (r.op = .start ∧ rest = [] ∧ i = .start) ∨
        (∃ v, r.op = .setout ∧ rest = [v] ∧ v.extractLsb' 16 16 = 0#16 ∧ i = .setout (v.extractLsb' 0 16)) ∨
        (r.op = .rddeb ∧ rest = [] ∧ i = .rddeb (w.extractLsb' 0 8).toNat) ∨
        (r.op = .take ∧ rest = [] ∧ i = .take (w.extractLsb' 24 4))) := by
  have hcmd : decodeCmd ws = .ok (i, []) := by
    rw [decodePacket] at hok
    split at hok
    · cases hok
    · next hcmd => cases hok; exact hcmd
    · cases hok
  unfold decodeCmd at hcmd
  split at hcmd
  · cases hcmd
  · next w rest =>
    split at hcmd
    · cases hcmd
    · next r hrow =>
      refine ⟨w, rest, r, rfl, hrow, ?_⟩
      split at hcmd
      · next nv mp ms d tail hop => cases hcmd; exact .inl ⟨nv, mp, ms, d, hop, rfl, rfl⟩
      · cases hcmd
      · next hop => cases hcmd; exact .inr (.inl ⟨hop, rfl, rfl⟩)
      · next v tail hop =>
        split at hcmd
        · next hv => cases hcmd; exact .inr (.inr (.inl ⟨v, hop, rfl, hv, rfl⟩))
        · cases hcmd
      · cases hcmd
      · next hop => cases hcmd; exact .inr (.inr (.inr (.inl ⟨hop, rfl, rfl⟩)))
      · next hop => cases hcmd; exact .inr (.inr (.inr (.inr ⟨hop, rfl, rfl⟩)))

/-- R92: the row that a header selects is the one of its `op`, and the header matches it. -/
theorem cmdRowOf_some {w : Word} {r : CmdRow} (hrow : cmdRowOf w = some r) : r ∈ cmdRows ∧ w &&& r.mask = r.value :=
  have hmatch : (w &&& r.mask == r.value) = true := List.find?_some (p := fun q : CmdRow => w &&& q.mask == q.value) hrow
  ⟨List.mem_of_find?_eq_some hrow, eq_of_beq hmatch⟩

/-- A field that a row's mask covers has the row's value. -/
theorem extractLsb'_of_masked {w mask value : Word} {start len : Nat} (hw : w &&& mask = value)
    (hmask : mask.extractLsb' start len = BitVec.allOnes len) :
    w.extractLsb' start len = value.extractLsb' start len := by
  rw [← hw, BitVec.extractLsb'_and, hmask, BitVec.and_allOnes]

/-- R86: a header whose reserved fields are zero is its fields. -/
theorem encodeHeader_fields {w : Word} (h18 : w.extractLsb' 18 6 = 0#6) (h8 : w.extractLsb' 8 8 = 0#8) :
    encodeHeader (w.extractLsb' 28 4) (w.extractLsb' 24 4) (w.extractLsb' 17 1) (w.extractLsb' 16 1)
      (w.extractLsb' 0 8) = w := by
  rw [encodeHeader, ← h18, ← h8]
  rw [BitVec.extractLsb'_append_extractLsb'_eq_extractLsb' (show 28 = 24 + 4 from rfl),
    BitVec.extractLsb'_append_extractLsb'_eq_extractLsb' (show 24 = 18 + 6 from rfl),
    BitVec.extractLsb'_append_extractLsb'_eq_extractLsb' (show 18 = 17 + 1 from rfl),
    BitVec.extractLsb'_append_extractLsb'_eq_extractLsb' (show 17 = 16 + 1 from rfl),
    BitVec.extractLsb'_append_extractLsb'_eq_extractLsb' (show 16 = 8 + 8 from rfl),
    BitVec.extractLsb'_append_extractLsb'_eq_extractLsb' (show 8 = 0 + 8 from rfl)]
  exact BitVec.extractLsb'_eq_self

theorem extractLsb'_one (w : Word) (p : Nat) : w.extractLsb' p 1 = BitVec.ofBool (w.getLsbD p) := by
  refine BitVec.eq_of_getLsbD_eq fun i hi => ?_
  obtain rfl : i = 0 := by omega
  simp

theorem kind_bit_ofBool (b : Bool) : (Kind.ofBool b).bit = BitVec.ofBool b := by cases b <;> rfl

theorem mode_bit_ofBool (b : Bool) : (Mode.ofBool b).bit = BitVec.ofBool b := by cases b <;> rfl

/-- R86, R92: a header that matches the row of its `op` is the encoding of the fields the row leaves free. -/
theorem header_of_register {w : Word} (hw : w &&& 0xF0FCFFFF#32 = 0x10000000#32) :
    encodeHeader 1#4 (w.extractLsb' 24 4) (Mode.ofBool (w.getLsbD 17)).bit (Kind.ofBool (w.getLsbD 16)).bit 0#8 = w := by
  have hop : w.extractLsb' 28 4 = 1#4 := extractLsb'_of_masked hw rfl
  have h18 : w.extractLsb' 18 6 = 0#6 := extractLsb'_of_masked hw rfl
  have h8 : w.extractLsb' 8 8 = 0#8 := extractLsb'_of_masked hw rfl
  have h0 : w.extractLsb' 0 8 = 0#8 := extractLsb'_of_masked hw rfl
  rw [mode_bit_ofBool, kind_bit_ofBool, ← extractLsb'_one, ← extractLsb'_one, ← hop, ← h0, encodeHeader_fields h18 h8]

theorem header_of_rddeb {w : Word} (hw : w &&& 0xFFFFFF00#32 = 0x40000000#32) :
    encodeHeader 4#4 0#4 0#1 0#1 (w.extractLsb' 0 8) = w := by
  have hop : w.extractLsb' 28 4 = 4#4 := extractLsb'_of_masked hw rfl
  have h24 : w.extractLsb' 24 4 = 0#4 := extractLsb'_of_masked hw rfl
  have h18 : w.extractLsb' 18 6 = 0#6 := extractLsb'_of_masked hw rfl
  have h17 : w.extractLsb' 17 1 = 0#1 := extractLsb'_of_masked hw rfl
  have h16 : w.extractLsb' 16 1 = 0#1 := extractLsb'_of_masked hw rfl
  have h8 : w.extractLsb' 8 8 = 0#8 := extractLsb'_of_masked hw rfl
  have hfields := encodeHeader_fields h18 h8
  rwa [hop, h24, h17, h16] at hfields

theorem header_of_take {w : Word} (hw : w &&& 0xF0FFFFFF#32 = 0x50000000#32) :
    encodeHeader 5#4 (w.extractLsb' 24 4) 0#1 0#1 0#8 = w := by
  have hop : w.extractLsb' 28 4 = 5#4 := extractLsb'_of_masked hw rfl
  have h18 : w.extractLsb' 18 6 = 0#6 := extractLsb'_of_masked hw rfl
  have h17 : w.extractLsb' 17 1 = 0#1 := extractLsb'_of_masked hw rfl
  have h16 : w.extractLsb' 16 1 = 0#1 := extractLsb'_of_masked hw rfl
  have h8 : w.extractLsb' 8 8 = 0#8 := extractLsb'_of_masked hw rfl
  have h0 : w.extractLsb' 0 8 = 0#8 := extractLsb'_of_masked hw rfl
  have hfields := encodeHeader_fields h18 h8
  rwa [hop, h17, h16, h0] at hfields

theorem header_of_full {w value : Word} (hw : w &&& 0xFFFFFFFF#32 = value) : w = value := by
  rw [← hw]
  exact BitVec.and_allOnes.symm

/-- The rows of R92 by their `op`. -/
theorem row_of_op {r : CmdRow} (hr : r ∈ cmdRows) :
    (r.op = .register → r = ⟨.register, 0x10000000#32, 0xF0FCFFFF#32⟩) ∧
    (r.op = .start → r = ⟨.start, 0x20000000#32, 0xFFFFFFFF#32⟩) ∧
    (r.op = .setout → r = ⟨.setout, 0x30000000#32, 0xFFFFFFFF#32⟩) ∧
    (r.op = .rddeb → r = ⟨.rddeb, 0x40000000#32, 0xFFFFFF00#32⟩) ∧
    (r.op = .take → r = ⟨.take, 0x50000000#32, 0xF0FFFFFF#32⟩) := by
  revert r
  decide

/-- Settles O3: the row's mask fixes every bit that is not a field, and the packet's length fixes the words. -/
theorem acceptedPacketIsItsEncoding : Obligations.AcceptedPacketIsItsEncoding := by
  intro ws i hok
  obtain ⟨w, rest, r, rfl, hrow, hcases⟩ := decodePacket_ok hok
  obtain ⟨hmem, hw⟩ := cmdRowOf_some hrow
  obtain ⟨hregister, hstart, hsetout, hrddeb, htake⟩ := row_of_op hmem
  rcases hcases with ⟨nv, mp, ms, d, hop, rfl, rfl⟩ | ⟨hop, rfl, rfl⟩ | ⟨v, hop, rfl, hv, rfl⟩ | ⟨hop, rfl, rfl⟩ |
    ⟨hop, rfl, rfl⟩
  · have hlast : d.extractLsb' 16 16 ++ d.extractLsb' 0 16 = d :=
      (BitVec.extractLsb'_append_extractLsb'_eq_extractLsb' rfl).trans BitVec.extractLsb'_eq_self
    rw [hregister hop] at hw
    rw [encode, header_of_register hw, hlast]
  · rw [hstart hop] at hw
    rw [encode, header_of_full hw]
    rfl
  · have hlast : 0#16 ++ v.extractLsb' 0 16 = v := by
      rw [← hv]
      exact (BitVec.extractLsb'_append_extractLsb'_eq_extractLsb' rfl).trans BitVec.extractLsb'_eq_self
    rw [hsetout hop] at hw
    rw [encode, hlast, header_of_full hw]
    rfl
  · rw [hrddeb hop] at hw
    rw [encode, BitVec.ofNat_toNat, BitVec.setWidth_eq, header_of_rddeb hw]
  · rw [htake hop] at hw
    rw [encode, header_of_take hw]

/-! ### The format of what is decoded (R81) -/

theorem format_ofDisp (row : DispRow) (pos : Nat) : (Instr.ofDisp row pos).format = .disp := by cases row <;> rfl

theorem format_ofPb (row : PbRow) (h : Nat) : (Instr.ofPb row h).format = .pbev := by cases row <;> rfl

theorem format_ofSettle (row : SettleRow) (h : Nat) : (Instr.ofSettle row h).format = .setl := by cases row <;> rfl

theorem format_ofPair (row : PairRow) (h : Nat) : (Instr.ofPair row h).format = .pair := by cases row <;> rfl

theorem format_ofTick (row : TickRow) (h : Nat) : (Instr.ofTick row h).format = .tmem := by cases row <;> rfl

theorem decodedPacket_wellFormed {ws : List Word} {i : Instr} (hok : decodePacket ws = .ok i) :
    i.WellFormed = true ∧ i.format = .cmd := by
  obtain ⟨w, rest, r, -, -, hcases⟩ := decodePacket_ok hok
  rcases hcases with ⟨nv, mp, ms, d, -, -, rfl⟩ | ⟨-, -, rfl⟩ | ⟨v, -, -, -, rfl⟩ | ⟨-, -, rfl⟩ | ⟨-, -, rfl⟩
  · exact ⟨rfl, rfl⟩
  · exact ⟨rfl, rfl⟩
  · exact ⟨rfl, rfl⟩
  · exact ⟨decide_eq_true (w.extractLsb' 0 8).isLt, rfl⟩
  · exact ⟨rfl, rfl⟩

/-- Settles O2: an argument is read from a field of 8 or 5 bits, and each row of a selector is of the selector's format. -/
theorem decodedIsWellFormed : Obligations.DecodedIsWellFormed := by
  intro f i hok
  cases f with
  | pin => cases hok; exact ⟨rfl, rfl⟩
  | cmd ws => exact decodedPacket_wellFormed hok
  | link rx => cases hok; exact ⟨rfl, rfl⟩
  | disp sel pos => cases hok; exact ⟨(wellFormed_ofDisp _ _).mpr pos.isLt, format_ofDisp _ _⟩
  | pbev sel h => cases hok; exact ⟨(wellFormed_ofPb _ _).mpr h.isLt, format_ofPb _ _⟩
  | setl sel h =>
    rw [decode] at hok
    split at hok <;> cases hok
    exact ⟨(wellFormed_ofSettle _ _).mpr h.isLt, format_ofSettle _ _⟩
  | pair sel h => cases hok; exact ⟨(wellFormed_ofPair _ _).mpr h.isLt, format_ofPair _ _⟩
  | tmem sel h => cases hok; exact ⟨(wellFormed_ofTick _ _).mpr h.isLt, format_ofTick _ _⟩

end Sys2Proof
end

section
/-!
PROOFS. The Bit Scanner (40_bit_scanner.md R111 to R114): the set bit either direction finds, the reach of the least one
through x and (0 - x), and the four laws.
-/

namespace Sys2Proof.Machine

open Sys2Proof

/-! ### Which bit is found (R111, R112) -/

theorem bscanMs_eq_some_iff (x : Word) (i : Nat) :
    bscanMs x = some i ↔ x.getLsbD i = true ∧ ∀ j, i < j → x.getLsbD j = false := by
  rw [bscanMs, Option.map_eq_some_iff]
  constructor
  · rintro ⟨n, hn, rfl⟩
    exact ((clz_eq_some_iff x n).mp hn).2
  · rintro ⟨hi, habove⟩
    have hback : 31 - (31 - i) = i := by have := BitVec.lt_of_getLsbD hi; omega
    exact ⟨31 - i, (clz_eq_some_iff x _).mpr ⟨Nat.sub_le 31 i, by rwa [hback], by rwa [hback]⟩, hback⟩

theorem bscanLs_eq_some_iff (x : Word) (i : Nat) :
    bscanLs x = some i ↔ x.getLsbD i = true ∧ ∀ j, j < i → x.getLsbD j = false := by
  rw [bscanLs, List.find?_range_eq_some]
  simp only [List.mem_range, Bool.not_eq_true']
  exact ⟨fun ⟨hi, _, hbelow⟩ => ⟨hi, hbelow⟩, fun ⟨hi, hbelow⟩ => ⟨hi, BitVec.lt_of_getLsbD hi, hbelow⟩⟩

/-! ### The least set bit through the leading zeros (93_implementation_defined.md G2) -/

/-- x and (0 - x) has a bit set exactly where x has its least one. -/
theorem getLsbD_and_neg (x : Word) (i : Nat) :
    (x &&& (0#32 - x)).getLsbD i = true ↔ x.getLsbD i = true ∧ ∀ j, j < i → x.getLsbD j = false := by
  rw [BitVec.zero_sub, BitVec.getLsbD_and, BitVec.getLsbD_neg, Bool.and_eq_true]
  refine and_congr_right fun hi => ?_
  simp only [hi, BitVec.lt_of_getLsbD hi, decide_true, Bool.true_and, Bool.true_xor, Bool.not_eq_true',
    decide_eq_false_iff_not, not_exists, not_and, Bool.not_eq_true]

theorem bscanMs_and_neg (x : Word) : bscanMs (x &&& (0#32 - x)) = bscanLs x := by
  refine Option.ext fun i => ?_
  rw [bscanMs_eq_some_iff, bscanLs_eq_some_iff, getLsbD_and_neg]
  refine and_iff_left_of_imp fun ⟨hi, _⟩ j hij => ?_
  refine Bool.eq_false_iff.mpr fun hj => ?_
  simp [((getLsbD_and_neg x j).mp hj).2 i hij] at hi

/-- Settles O21: each direction searches from its own end, and x and (0 - x) leaves the least set bit alone. -/
theorem scannerFindsEitherEnd : Obligations.ScannerFindsEitherEnd :=
  fun x => ⟨bscanMs_eq_some_iff x, bscanLs_eq_some_iff x, (bscanMs_and_neg x).symm⟩

/-! ### The laws (R114) -/

/-- Clearing one set bit leaves one set bit fewer. -/
theorem popcount_clear_bit {x : Word} {p : Nat} (hp : x.getLsbD p = true) :
    popcount (x &&& ~~~(bitMask p)) + 1 = popcount x := by
  have hlt : p < 32 := BitVec.lt_of_getLsbD hp
  have hmem : p ∈ (List.range 32).filter fun i => x.getLsbD i := by simp [hlt, hp]
  have hcleared : (List.range 32).filter (fun i => (x &&& ~~~(bitMask p)).getLsbD i) =
      ((List.range 32).filter fun i => x.getLsbD i).erase p := by
    rw [(List.nodup_range.filter _).erase_eq_filter, List.filter_filter]
    refine List.filter_congr fun i hi => ?_
    have hi32 : i < 32 := List.mem_range.mp hi
    simp only [BitVec.getLsbD_and, BitVec.getLsbD_not, getLsbD_bitMask, hi32, decide_true, Bool.true_and, true_and, bne,
      Bool.and_comm]
    rfl
  rw [popcount, popcount, List.countP_eq_length_filter, List.countP_eq_length_filter, hcleared]
  exact List.length_erase_add_one hmem

/-- A set bit of a word below 2 ^ n stands below n. -/
theorem lt_of_getLsbD_of_toNat_lt {x : Word} {p n : Nat} (hp : x.getLsbD p = true) (hx : x.toNat < 2 ^ n) : p < n :=
  (Nat.pow_lt_pow_iff_right (by omega)).mp ((Nat.ge_two_pow_of_testBit hp).trans_lt hx)

/-- Settles O22: a non-zero word has a set bit, and all four laws are about the set bit that is found. -/
theorem scannerLaws : Obligations.ScannerLaws := by
  intro dir x hx
  have hset : ∃ q, x.getLsbD q = true := by
    by_contra hnone
    exact hx (BitVec.eq_of_getLsbD_eq fun i _ => by simpa using not_exists.mp hnone i)
  obtain ⟨q, hq⟩ := hset
  obtain ⟨p, hscan⟩ := Option.ne_none_iff_exists'.mp (scan_ne_none (dir := dir) hq)
  have hp : x.getLsbD p = true := scan_sets hscan
  exact ⟨p, hscan, hp, Nat.le_of_lt_succ (BitVec.lt_of_getLsbD hp), popcount_clear_bit hp, lt_of_getLsbD_of_toNat_lt hp⟩

/-! ### The end of the dispatch loop (R142, R147) -/

/-- A loop that ends normally ends where the scan finds nothing. -/
theorem dispatchLoop_scan {n : Nat} {dir : ScanDir} {s t : State} (ht : dispatchLoop n dir s = .ok t) :
    scan dir t.scratch.work = none := by
  fun_induction dispatchLoop n dir s with
  | case1 dir s hscan | case3 n dir s hscan => cases ht; exact hscan
  | case2 | case4 => cases ht
  | case5 n dir s pos _ u _ ih => exact ih ht

theorem eq_zero_of_scan_none {dir : ScanDir} {x : Word} (hscan : scan dir x = none) : x = 0#32 :=
  BitVec.eq_of_getLsbD_eq fun i _ => by
    rw [BitVec.getLsbD_zero]
    exact Bool.eq_false_iff.mpr fun hi => scan_ne_none hi hscan

/-- With as many passes as bits are set, none of them at or beyond N, the loop ends normally. -/
theorem dispatchLoop_ends {n : Nat} {dir : ScanDir} {s : State} (hs : s.RegistryInv)
    (hn : popcount s.scratch.work ≤ n) (hbelow : ∀ p, s.scratch.work.getLsbD p = true → p < s.nSlots) :
    ∃ t, dispatchLoop n dir s = .ok t := by
  induction n generalizing s with
  | zero =>
    cases hscan : scan dir s.scratch.work with
    | none => exact ⟨s, dispatchLoop_done hscan⟩
    | some pos => exact absurd (popcount_pos (scan_sets hscan)) (Nat.not_lt_of_le hn)
  | succ n ih =>
    cases hscan : scan dir s.scratch.work with
    | none => exact ⟨s, dispatchLoop_done hscan⟩
    | some pos =>
      have hpos : pos < s.nSlots := hbelow pos (scan_sets hscan)
      obtain ⟨t, mask, hrun, hclears⟩ := runDisp_clears hs hpos
      have hpass : dispatchAt pos s = .ok t := dispatchAt_ok.mpr ⟨hpos, hrun⟩
      have hreg : t.reg = s.reg := reg_of_apartFromDebounce (dispatchAt_apartFromDebounce hpass)
      have hfewer : popcount t.scratch.work < popcount s.scratch.work :=
        hclears.work ▸ popcount_clear_lt (scan_sets hscan) hclears.here
      simp only [dispatchLoop_pass hscan, hpass]
      refine ih (registryInv_of_configs hreg (dispatchAt_configs hpass) hs) (by omega) fun p hp => ?_
      rw [hclears.work, BitVec.getLsbD_and, Bool.and_eq_true] at hp
      rw [nSlots_eq, hreg]
      exact hbelow p hp.1

/-- Settles O26: a bit at or beyond N halts the loop, and otherwise every pass clears a set bit until none is left. -/
theorem dispatchLoopEndsAtZero : Obligations.DispatchLoopEndsAtZero := by
  intro s dir hs
  refine ⟨?_, fun t ht => eq_zero_of_scan_none (dispatchLoop_scan ht)⟩
  by_cases hbeyond : ∃ p, s.scratch.work.getLsbD p = true ∧ s.nSlots ≤ p
  · obtain ⟨p, hbit, hp⟩ := hbeyond
    rw [dispatchLoop_scanRange hs (popcount_le _) hp hbit]
    simp
  · have hbelow : ∀ p, s.scratch.work.getLsbD p = true → p < s.nSlots := by simpa using hbeyond
    obtain ⟨t, ht⟩ := dispatchLoop_ends (dir := dir) hs (popcount_le _) hbelow
    simp [ht]

end Sys2Proof.Machine
end

section
/-!
PROOFS. The debounce transitions as moves: each PBEV, SETL and PAIR row (30_encoding.md R94) writes its one descriptor,
may notify, and may insert the descriptor at the head of the set, and that is all it does.
-/

namespace Sys2Proof.Machine

open Sys2Proof

/-- What a transition does to its descriptor: the fields it writes but for the link, whether it notifies (R221) and
whether it starts the timer, so inserts the descriptor into the set (R211). -/
structure Move where
  write    : Descriptor → Descriptor
  notifies : Bool
  starts   : Bool

namespace Move

/-- The move as an operation on descriptor `h`. -/
def run (m : Move) (h : Nat) (s : State) : State :=
  let t := (if m.notifies then notify h s else s).modDesc h m.write
  if m.starts then adsInsert h t else t

/-- The descriptor after the move, where the set began at `head`. -/
def result (m : Move) (head : Option Nat) (d : Descriptor) : Descriptor :=
  if m.starts then { m.write d with next := head } else m.write d

/-- A move that rewrites the configuration (R47) of no descriptor. -/
def KeepsConfig (m : Move) : Prop := ∀ d, (m.write d).config = d.config

end Move

/-! ### The rows as moves -/

/-- R172 to R180. -/
def pbMove : PbRow → Move
  | .openInstant => ⟨fun d => { d with debounced := 1#2, machineState := .opened }, true, false⟩
  | .openImm => ⟨fun d => { d with debounced := 1#2, machineState := .opening, countdown := d.durationOpening }, true, true⟩
  | .openSet => ⟨fun d => { d with machineState := .opening, countdown := d.durationOpening }, false, true⟩
  | .closeInstant => ⟨fun d => { d with debounced := 0#2, machineState := .closed }, true, false⟩
  | .closeImm => ⟨fun d => { d with debounced := 0#2, machineState := .closing, countdown := d.durationClosing }, true, true⟩
  | .closeSet => ⟨fun d => { d with machineState := .closing, countdown := d.durationClosing }, false, true⟩
  | .extendOpening => ⟨fun d => { d with countdown := d.durationOpening }, false, false⟩
  | .extendClosing => ⟨fun d => { d with countdown := d.durationClosing }, false, false⟩
  | .noneClosed | .noneOpen => ⟨id, false, false⟩

/-- R182 to R189. -/
def settleMove : SettleRow → Move
  | .openingConfirmImm | .closingBounceSet => ⟨fun d => { d with machineState := .opened }, false, false⟩
  | .openingBounceSet | .closingConfirmImm => ⟨fun d => { d with machineState := .closed }, false, false⟩
  | .openingConfirmSet | .closingBounceImm =>
    ⟨fun d => { d with machineState := .opened, debounced := 1#2 }, true, false⟩
  | .openingBounceImm | .closingConfirmSet =>
    ⟨fun d => { d with machineState := .closed, debounced := 0#2 }, true, false⟩

/-- R203, R204. -/
def pairMove : PairRow → Move
  | .ignore00 | .ignore11 | .same01 | .same10 => ⟨id, false, false⟩
  | .commit01 => ⟨fun d => { d with debounced := 0b01#2 }, true, false⟩
  | .commit10 => ⟨fun d => { d with debounced := 0b10#2 }, true, false⟩

theorem modDesc_id (h : Nat) (s : State) : s.modDesc h id = s := by rw [State.modDesc, List.modify_id]

theorem notify_commit_setMachine (h : Nat) (v : BitVec 2) (m : MachineState) (s : State) :
    notify h (commit h v (setMachine h m s)) =
      (notify h s).modDesc h fun d => { d with machineState := m, debounced := v } := by
  rw [← notify_modDesc h s (fun d => { d with machineState := m, debounced := v }) fun _ => ⟨rfl, rfl⟩]
  exact congrArg (notify h) (modDesc_modDesc ..)

theorem runPb_eq_move (row : PbRow) (h : Nat) (s : State) : runPb row h s = (pbMove row).run h s := by
  cases row with
  | openInstant | closeInstant => exact setMachine_notify_commit ..
  | openImm => exact pbOpenImm_eq h s
  | openSet => exact pbOpenSet_eq h s
  | closeImm => exact pbCloseImm_eq h s
  | closeSet => exact pbCloseSet_eq h s
  | extendOpening | extendClosing => rfl
  | noneClosed | noneOpen => exact (modDesc_id h s).symm

theorem runSettle_eq_move (row : SettleRow) (h : Nat) (s : State) : runSettle row h s = (settleMove row).run h s := by
  cases row with
  | openingConfirmImm | closingBounceSet | openingBounceSet | closingConfirmImm => rfl
  | openingConfirmSet | closingBounceImm | openingBounceImm | closingConfirmSet => exact notify_commit_setMachine ..

theorem runPair_eq_move (row : PairRow) (h : Nat) (s : State) : runPair row h s = (pairMove row).run h s := by
  cases row with
  | ignore00 | ignore11 | same01 | same10 => exact (modDesc_id h s).symm
  | commit01 | commit10 => exact notify_commit ..

theorem pbMove_keepsConfig (row : PbRow) : (pbMove row).KeepsConfig := by cases row <;> exact fun _ => rfl

theorem settleMove_keepsConfig (row : SettleRow) : (settleMove row).KeepsConfig := by cases row <;> exact fun _ => rfl

theorem pairMove_keepsConfig (row : PairRow) : (pairMove row).KeepsConfig := by cases row <;> exact fun _ => rfl

/-- No settle inserts into the set; TICK.EXPIRE unlinks after it (R214). -/
theorem settleMove_starts (row : SettleRow) : (settleMove row).starts = false := by cases row <;> rfl

/-! ### What a move reads and writes -/

namespace Move

variable {m : Move} {h : Nat} {s : State} {d : Descriptor}

theorem run_notifying (hd : s.descs[h]? = some d) :
    m.run h s = { s with
      descs := s.descs.set h (m.result s.head d), head := if m.starts then some h else s.head
      pend := if m.notifies then s.pend.set d.consumer.toNat (s.pendOf d.consumer ||| d.notifyValue) d.consumer.isLt
        else s.pend } := by
  cases hn : m.notifies <;> cases hs : m.starts <;> simp only [run, result, hn, hs]
  · exact modDesc_eq_set _ hd
  · exact adsInsert_modDesc_eq_set _ hd
  · exact notify_modDesc_eq_set _ hd
  · exact adsInsert_notify_modDesc_eq_set _ hd

theorem run_self (hd : s.descs[h]? = some d) : (m.run h s).descs[h]? = some (m.result s.head d) := by
  rw [run_notifying hd]
  exact List.getElem?_set_self (List.getElem?_eq_some_iff.mp hd).1

theorem run_other {k : Nat} (hd : s.descs[h]? = some d) (hk : h ≠ k) : (m.run h s).descs[k]? = s.descs[k]? := by
  rw [run_notifying hd]
  exact List.getElem?_set_ne hk

theorem run_head (hd : s.descs[h]? = some d) : (m.run h s).head = if m.starts then some h else s.head := by
  rw [run_notifying hd]

theorem run_scratch (hd : s.descs[h]? = some d) : (m.run h s).scratch = s.scratch := by
  rw [run_notifying hd]

theorem run_apartFromDebounce (hd : s.descs[h]? = some d) :
    (m.run h s).apartFromDebounce = s.apartFromDebounce := by
  rw [run_notifying hd]
  rfl

theorem run_configs (hm : m.KeepsConfig) : (m.run h s).configs = s.configs := by
  have hwrite (t : State) : (t.modDesc h m.write).configs = t.configs := modDesc_configs hm
  rw [run]
  split <;> split <;> simp only [adsInsert_configs, hwrite, notify_configs]

/-- The bits of PEND after the move: those before it and, if it notifies, the descriptor's own (R221). -/
theorem run_pendOf (hd : s.descs[h]? = some d) (c : BitVec 4) (p : Nat) :
    ((m.run h s).pendOf c).getLsbD p = true ↔ (s.pendOf c).getLsbD p = true ∨
      m.notifies = true ∧ d.consumer = c ∧ d.notifyValue.getLsbD p = true := by
  have hpend : (m.run h s).pendOf c =
      if m.notifies then (s.setPend d.consumer (s.pendOf d.consumer ||| d.notifyValue)).pendOf c else s.pendOf c := by
    rw [run_notifying hd]
    split <;> rfl
  rw [hpend]
  cases hn : m.notifies with
  | false => simp
  | true =>
    by_cases hc : d.consumer = c
    · subst hc
      simp [pendOf_setPend_same]
    · simp [pendOf_setPend_other _ _ hc, hc]

theorem result_apartFromLink (head : Option Nat) : (m.result head d).apartFromLink = (m.write d).apartFromLink := by
  rw [result]
  split <;> rfl

end Move

end Sys2Proof.Machine
end

section
/-!
PROOFS. One transition on its own (30_encoding.md R94): the rows that a descriptor selects, the settles of
44_pushbutton_fsm.md R181 to R189, the tick of 46_active_set.md R213 and R214, and that exactly one row fires.
-/

namespace Sys2Proof.Machine

open Sys2Proof

section
variable {s : State} {h : Nat} {d : Descriptor}

/-! ### The rows of an agreeing event (R180) -/

theorem pbRow_of_closed_readsClosed (hm : d.machineState = .closed) (hr : d.raw.getLsbD 0 = false) :
    decodePbev (pbSelector d) = .noneClosed := by
  rw [pbSelector, levelBit, hr, hm]
  cases zeroDurationBit d <;> cases d.mode <;> rfl

theorem pbRow_of_opened_readsOpen (hm : d.machineState = .opened) (hr : d.raw.getLsbD 0 = true) :
    decodePbev (pbSelector d) = .noneOpen := by
  rw [pbSelector, levelBit, hr, hm]
  cases zeroDurationBit d <;> cases d.mode <;> rfl

/-! ### The rows of a settle (R181) -/

theorem settleRow_of_opening (hm : d.machineState = .opening) :
    decodeSetl (settleSelector d) = some
      (if d.raw.getLsbD 0 then (if d.mode = .immediate then .openingConfirmImm else .openingConfirmSet)
        else if d.mode = .immediate then .openingBounceImm else .openingBounceSet) := by
  rw [settleSelector, levelBit, hm]
  cases d.raw.getLsbD 0 <;> cases d.mode <;> rfl

theorem settleRow_of_closing (hm : d.machineState = .closing) :
    decodeSetl (settleSelector d) = some
      (if d.raw.getLsbD 0 then (if d.mode = .immediate then .closingBounceImm else .closingBounceSet)
        else if d.mode = .immediate then .closingConfirmImm else .closingConfirmSet) := by
  rw [settleSelector, levelBit, hm]
  cases d.raw.getLsbD 0 <;> cases d.mode <;> rfl

/-- In a timer state a settle has its row. -/
theorem settleRow_of_timer (hm : d.machineState = .opening ∨ d.machineState = .closing) :
    ∃ row, decodeSetl (settleSelector d) = some row := by
  rcases hm with hm | hm
  · exact ⟨_, settleRow_of_opening hm⟩
  · exact ⟨_, settleRow_of_closing hm⟩

/-- A settle whose row the descriptor selects answers the move of the row, with no insertion. -/
theorem exec_ofSettle_of_row {row : SettleRow} (hrun : s.halted = false) (hd : s.descs[h]? = some d)
    (hrow : decodeSetl (settleSelector d) = some row) :
    exec (.ofSettle row h) s = .next { s with
      descs := s.descs.set h ((settleMove row).write d)
      pend := if (settleMove row).notifies
        then s.pend.set d.consumer.toNat (s.pendOf d.consumer ||| d.notifyValue) d.consumer.isLt else s.pend } := by
  have hmove := Move.run_notifying (m := settleMove row) hd
  simp only [Move.result, settleMove_starts] at hmove
  rw [exec_ofSettle, fireSettle_next]
  exact ⟨hrun, d, hd, hrow, (hmove.symm.trans (runSettle_eq_move row h s).symm)⟩

/-! ### The row of a tick (R212) -/

theorem expiringBit_eq (d : Descriptor) : expiringBit d = decide (d.countdown = 1#16) := by
  rw [expiringBit, Bool.eq_iff_iff, beq_iff_eq, decide_eq_true_iff, BitVec.sub_eq_iff_eq_add, BitVec.zero_add]

theorem tickRow_eq (d : Descriptor) :
    decodeTmem (tickSelector d) = if d.countdown = 1#16 then .expire else .hold := by
  rw [tickSelector, expiringBit_eq]
  by_cases hc : d.countdown = 1#16 <;> simp only [hc, if_true, if_false, decide_true, decide_false] <;> rfl

/-- TICK.EXPIRE in a timer state: the countdown is cleared, the one row settles, and the node is unlinked. -/
theorem tickExpire_of_row {row : SettleRow} (hd : s.descs[h]? = some d)
    (hrow : decodeSetl (settleSelector d) = some row) :
    tickExpire h s = .ok (adsUnlink h s.scratch.prevNode d.next
      ((settleMove row).run h (s.modDesc h fun e => { e with countdown := 0#16 }))) := by
  refine tickExpire_ok.mpr ⟨d, _, hd, settle_ok.mpr ⟨{ d with countdown := 0#16 }, row, ?_, hrow, ?_⟩, rfl⟩
  · exact modDesc_same _ hd
  · exact (runSettle_eq_move ..).symm

end

/-! ### The statements -/

/-- Settles O31: an event that agrees with the state selects PB.NONE, which writes nothing. -/
theorem agreeingEventDoesNothing : Obligations.AgreeingEventDoesNothing := by
  intro s h d hrun hd hk
  refine ⟨fun hm hr => ?_, fun hm hr => ?_⟩
  · exact exec_ofPb_of_row hrun hd hk (pbRow_of_closed_readsClosed hm hr) rfl
  · exact exec_ofPb_of_row hrun hd hk (pbRow_of_opened_readsOpen hm hr) rfl

/-- Settles O32: each of the four selects a row that neither commits nor notifies. -/
theorem silentSettles : Obligations.SilentSettles := by
  intro s h d hrun hd
  refine ⟨fun hm hr hmode => ?_, fun hm hr hmode => ?_, fun hm hr hmode => ?_, fun hm hr hmode => ?_⟩
  · exact exec_ofSettle_of_row (row := .openingConfirmImm) hrun hd (by rw [settleRow_of_opening hm, hr, hmode]; rfl)
  · exact exec_ofSettle_of_row (row := .openingBounceSet) hrun hd (by rw [settleRow_of_opening hm, hr, hmode]; rfl)
  · exact exec_ofSettle_of_row (row := .closingConfirmImm) hrun hd (by rw [settleRow_of_closing hm, hr, hmode]; rfl)
  · exact exec_ofSettle_of_row (row := .closingBounceSet) hrun hd (by rw [settleRow_of_closing hm, hr, hmode]; rfl)

/-- Settles O33: in Settled mode the confirmed direction selects the row that commits. -/
theorem settledConfirmCommits : Obligations.SettledConfirmCommits := by
  intro s h d hrun hd hmode
  refine ⟨fun hm hr => ?_, fun hm hr => ?_⟩
  · exact exec_ofSettle_of_row (row := .openingConfirmSet) hrun hd (by rw [settleRow_of_opening hm, hr, hmode]; rfl)
  · exact exec_ofSettle_of_row (row := .closingConfirmSet) hrun hd (by rw [settleRow_of_closing hm, hr, hmode]; rfl)

/-- Settles O34: in Immediate mode the bounce-back selects the row that commits the level before. -/
theorem immediateBounceIsCorrected : Obligations.ImmediateBounceIsCorrected := by
  intro s h d hrun hd hmode
  refine ⟨fun hm hr => ?_, fun hm hr => ?_⟩
  · exact exec_ofSettle_of_row (row := .openingBounceImm) hrun hd (by rw [settleRow_of_opening hm, hr, hmode]; rfl)
  · exact exec_ofSettle_of_row (row := .closingBounceImm) hrun hd (by rw [settleRow_of_closing hm, hr, hmode]; rfl)

/-- A TMEM transition whose row the descriptor selects answers what its effect answers. -/
theorem exec_ofTick_of_row {row : TickRow} {s t : State} {h : Nat} {d : Descriptor} (hrun : s.halted = false)
    (hd : s.descs[h]? = some d) (hrow : decodeTmem (tickSelector d) = row) (hok : runTick row h s = .ok t) :
    exec (.ofTick row h) s = .next t := by
  rw [exec_ofTick, fireTick_next]
  exact ⟨hrun, d, hd, hrow, finish_next.mpr (.inl hok)⟩

/-- Settles O37: a countdown that is not 1 selects TICK.HOLD, the decrement alone. -/
theorem tickHoldDecrements : Obligations.TickHoldDecrements := by
  intro s h d hrun hd hcount
  have hrow : decodeTmem (tickSelector d) = .hold := by rw [tickRow_eq, if_neg hcount]
  exact exec_ofTick_of_row hrun hd hrow (congrArg Except.ok (modDesc_eq_set _ hd))

/-- Settles O38: the row is selected by fields that the countdown is not among, so the settle fires after it is cleared. -/
theorem tickExpireSettlesAndUnlinks : Obligations.TickExpireSettlesAndUnlinks := by
  intro s h d hrun hd hcount hm
  obtain ⟨row, hrow⟩ := settleRow_of_timer hm
  have htick : decodeTmem (tickSelector d) = .expire := by rw [tickRow_eq, if_pos hcount]
  have hexpire := exec_ofTick_of_row hrun hd htick (tickExpire_of_row hd hrow)
  rw [modDesc_eq_set _ hd, ← runSettle_eq_move] at hexpire
  have hcleared : (s.descs.set h { d with countdown := 0#16 })[h]? = some { d with countdown := 0#16 } :=
    List.getElem?_set_self (List.getElem?_eq_some_iff.mp hd).1
  have hsettle : exec (.ofSettle row h) { s with descs := s.descs.set h { d with countdown := 0#16 } } =
      .next (runSettle row h { s with descs := s.descs.set h { d with countdown := 0#16 } }) := by
    rw [exec_ofSettle, fireSettle_next]
    exact ⟨hrun, _, hcleared, hrow, rfl⟩
  refine ⟨row, _, hsettle, hexpire.trans ?_⟩
  cases s.scratch.prevNode <;> rfl

/-! ### Exactly one row fires (R94) -/

section
variable {s : State} {h : Nat} {d : Descriptor}

theorem existsUnique_pbRow (hrun : s.halted = false) (hd : s.descs[h]? = some d) (hk : d.kind = .pushbutton) :
    ∃! row, Completes (exec (.ofPb row h) s) := by
  refine ⟨decodePbev (pbSelector d), ⟨_, exec_ofPb_selected hrun hd hk⟩, fun row ⟨t, ht⟩ => ?_⟩
  obtain ⟨-, e, he, -, hrow, -⟩ := firePb_next.mp (exec_ofPb row h s ▸ ht)
  rw [← hrow, Option.some.inj (hd.symm.trans he)]

theorem existsUnique_settleRow (hrun : s.halted = false) (hd : s.descs[h]? = some d)
    (hm : d.machineState = .opening ∨ d.machineState = .closing) : ∃! row, Completes (exec (.ofSettle row h) s) := by
  obtain ⟨sel, hsel⟩ := settleRow_of_timer hm
  refine ⟨sel, ⟨_, exec_ofSettle_of_row hrun hd hsel⟩, fun row ⟨t, ht⟩ => ?_⟩
  obtain ⟨-, e, he, hrow, -⟩ := fireSettle_next.mp (exec_ofSettle row h s ▸ ht)
  rw [← Option.some.inj (hd.symm.trans he)] at hrow
  exact Option.some.inj (hrow.symm.trans hsel)

theorem existsUnique_pairRow (hrun : s.halted = false) (hd : s.descs[h]? = some d) (hk : d.kind = .pair) :
    ∃! row, Completes (exec (.ofPair row h) s) := by
  refine ⟨decodePair (pairSelector d), ⟨_, exec_ofPair_selected hrun hd hk⟩, fun row ⟨t, ht⟩ => ?_⟩
  obtain ⟨-, e, he, -, hrow, -⟩ := firePair_next.mp (exec_ofPair row h s ▸ ht)
  rw [← hrow, Option.some.inj (hd.symm.trans he)]

/-- In a timer state the tick completes in either row: where it expires, the settle has its row. -/
theorem runTick_of_timer (hd : s.descs[h]? = some d) (hm : d.machineState = .opening ∨ d.machineState = .closing)
    (row : TickRow) : ∃ t, runTick row h s = .ok t := by
  obtain ⟨sel, hsel⟩ := settleRow_of_timer hm
  cases row with
  | hold => exact ⟨_, rfl⟩
  | expire => exact ⟨_, tickExpire_of_row hd hsel⟩

theorem existsUnique_tickRow (hrun : s.halted = false) (hd : s.descs[h]? = some d)
    (hm : d.machineState = .opening ∨ d.machineState = .closing) : ∃! row, Completes (exec (.ofTick row h) s) := by
  obtain ⟨t, hok⟩ := runTick_of_timer hd hm (decodeTmem (tickSelector d))
  refine ⟨_, ⟨t, exec_ofTick_of_row hrun hd rfl hok⟩, fun row ⟨u, hu⟩ => ?_⟩
  obtain ⟨-, e, he, hrow, -⟩ := fireTick_next.mp (exec_ofTick row h s ▸ hu)
  rw [← hrow, Option.some.inj (hd.symm.trans he)]

/-- The row that a slot selects completes, if the slot is empty or holds an existing handle. -/
theorem runDisp_selected {pos : Nat} (hd : s.descs[h]? = some d) (hslot : s.slot pos = none ∨ s.slot pos = some h) :
    ∃ t, runDisp (decodeDisp (dispSelector s pos)) pos s = .ok t := by
  rcases hslot with hslot | hslot
  · rw [dispRow_of_empty hslot]
    exact ⟨_, rfl⟩
  · cases hk : d.kind with
    | pushbutton =>
      rw [dispRow_of_pushbutton hslot hd hk]
      exact ⟨_, runDispPb_some hslot hd⟩
    | pair =>
      rw [dispRow_of_pair hslot hd hk]
      exact ⟨_, runDispPair_some hslot hd⟩

theorem existsUnique_dispRow {pos : Nat} (hrun : s.halted = false) (hd : s.descs[h]? = some d)
    (hreg : s.reg[pos]? = some none ∨ s.reg[pos]? = some (some h)) :
    ∃! row, Completes (exec (.ofDisp row pos) s) := by
  have hpos : pos < s.nSlots := hreg.elim (fun hr => (slot_of_reg hr).1) fun hr => (slot_of_reg hr).1
  obtain ⟨t, hok⟩ := runDisp_selected hd (hreg.imp (fun hr => (slot_of_reg hr).2) fun hr => (slot_of_reg hr).2)
  refine ⟨_, ⟨t, exec_ofDisp_of_ok hrun hpos rfl hok⟩, fun row ⟨u, hu⟩ => ?_⟩
  obtain ⟨-, -, hrow, -⟩ := fireDisp_next.mp (exec_ofDisp row pos s ▸ hu)
  exact hrow.symm

end

/-- Settles O39: a transition fires only where its row is the selected one, and the selected one completes. -/
theorem exactlyOneTransitionFires : Obligations.ExactlyOneTransitionFires :=
  fun _ _ _ hrun hd => ⟨existsUnique_pbRow hrun hd, existsUnique_settleRow hrun hd, existsUnique_pairRow hrun hd,
    existsUnique_tickRow hrun hd, fun _ => existsUnique_dispRow hrun hd⟩

end Sys2Proof.Machine
end

section
/-!
PROOFS. What an operation that completes can have done, said once, and what follows for all operations: who may write
what (48_arithmetic_and_control.md R234, 10_state.md R47), what a host command leaves alone, and HALTED with ERR.
-/

namespace Sys2Proof.Machine

open Sys2Proof

/-! ### The configurations (R47) through a settle, the tick and the loops -/

theorem runSettle_configs (row : SettleRow) (h : Nat) (s : State) : (runSettle row h s).configs = s.configs := by
  rw [runSettle_eq_move]
  exact Move.run_configs (settleMove_keepsConfig row)

theorem setNext_configs (h : Nat) (n : Option Nat) (s : State) : (setNext h n s).configs = s.configs :=
  modDesc_configs fun _ => rfl

theorem adsUnlink_configs (cur : Nat) (p nxt : Option Nat) (s : State) :
    (adsUnlink cur p nxt s).configs = s.configs := by
  cases p with
  | none => exact setNext_configs cur none { s with head := nxt }
  | some q => exact (setNext_configs cur none _).trans (setNext_configs q nxt s)

theorem tickExpire_configs {cur : Nat} {s t : State} (ht : tickExpire cur s = .ok t) : t.configs = s.configs := by
  obtain ⟨d, u, -, hu, rfl⟩ := tickExpire_ok.mp ht
  obtain ⟨e, row, -, -, rfl⟩ := settle_ok.mp hu
  rw [adsUnlink_configs, runSettle_configs]
  exact modDesc_configs fun _ => rfl

theorem decrement_configs (h : Nat) (s : State) : (decrement h s).configs = s.configs :=
  modDesc_configs fun _ => rfl

theorem runTick_configs {row : TickRow} {h : Nat} {s t : State} (ht : runTick row h s = .ok t) :
    t.configs = s.configs := by
  cases row with
  | hold => cases ht; exact decrement_configs h s
  | expire => exact tickExpire_configs ht

theorem tickWalk_configs {n : Nat} {cur : Option Nat} {s t : State} (ht : tickWalk n cur s = .ok t) :
    t.configs = s.configs := by
  fun_induction tickWalk n cur s with
  | case1 => cases ht; rfl
  | case2 | case3 | case5 => cases ht
  | case4 n cur s d _ _ ih => exact (ih ht).trans (decrement_configs cur s)
  | case6 n cur s d _ _ u hu ih => exact (ih ht).trans (tickExpire_configs hu)

theorem tick_configs {s t : State} (ht : tick s = .ok t) : t.configs = s.configs := by
  obtain ⟨u, hu, rfl⟩ := tick_ok.mp ht
  have hwalk := tickWalk_configs hu
  exact hwalk

theorem dispatchLoop_configs {n : Nat} {dir : ScanDir} {s t : State} (ht : dispatchLoop n dir s = .ok t) :
    t.configs = s.configs := by
  fun_induction dispatchLoop n dir s with
  | case1 | case3 => cases ht; rfl
  | case2 | case4 => cases ht
  | case5 n dir s pos _ u hu ih => exact (ih ht).trans (dispatchAt_configs hu)

/-! ### A completed cycle: what it writes beside the debounce state (R121 to R126) -/

/-- The registers a completed cycle writes: PREV, unless the sample was discarded, SKIP, CYC, DIV, and the transfer. -/
def State.cycled (rx : Sample) (s : State) : State :=
  { s with
    prev := if 0 < s.skip then s.prev else rx, skip := s.skip - 1, cyc := s.cyc + 1#32
    div := if s.div + 1 = s.params.k then 0 else s.div + 1, outbox := .issue s.outw :: s.outbox }

theorem sampleStep_configs {rx : Sample} {s t : State} (ht : sampleStep rx s = .ok t) : t.configs = s.configs := by
  rw [sampleStep] at ht
  split at ht
  · cases ht; rfl
  · obtain ⟨u, hu, rfl⟩ := scanSample_ok.mp ht
    have hloop := dispatchLoop_configs hu
    exact hloop

theorem sampleStep_apartFromDebounce {rx : Sample} {s t : State} (ht : sampleStep rx s = .ok t) :
    t.apartFromDebounce = State.apartFromDebounce { s with
      prev := if 0 < s.skip then s.prev else rx, skip := s.skip - 1 } := by
  rw [sampleStep] at ht
  split at ht
  · next hskip =>
    cases ht
    rw [if_pos hskip]
    rfl
  · next hskip =>
    obtain ⟨u, hu, rfl⟩ := scanSample_ok.mp ht
    have hzero : s.skip - 1 = s.skip := by omega
    rw [if_neg hskip, hzero]
    exact congrArg (fun v : State => { v with prev := rx }) (dispatchLoop_apartFromDebounce hu)

theorem countStep_configs {s t : State} (ht : countStep s = .ok t) : t.configs = s.configs := by
  unfold countStep at ht
  split at ht
  · have htick := tick_configs ht
    exact htick
  · cases ht; rfl

theorem countStep_apartFromDebounce {s t : State} (ht : countStep s = .ok t) :
    t.apartFromDebounce = State.apartFromDebounce { s with
      cyc := s.cyc + 1#32, div := if s.div + 1 = s.params.k then 0 else s.div + 1 } := by
  unfold countStep at ht
  split at ht
  · next hdue =>
    rw [if_pos hdue]
    exact tick_apartFromDebounce ht
  · next hdue =>
    cases ht
    rw [if_neg hdue]

theorem cycleSteps_configs {rx : Sample} {s t : State} (ht : cycleSteps rx s = .ok t) : t.configs = s.configs := by
  obtain ⟨u, v, hu, hv, rfl⟩ := cycleSteps_ok.mp ht
  exact (countStep_configs hv).trans (sampleStep_configs hu)

theorem cycleSteps_apartFromDebounce {rx : Sample} {s t : State} (ht : cycleSteps rx s = .ok t) :
    t.apartFromDebounce = (s.cycled rx).apartFromDebounce := by
  obtain ⟨u, v, hu, hv, rfl⟩ := cycleSteps_ok.mp ht
  have hissue : (issueTransfer v).apartFromDebounce = issueTransfer v.apartFromDebounce := rfl
  have hcount (w : State) : State.apartFromDebounce { w with
      cyc := w.cyc + 1#32, div := if w.div + 1 = w.params.k then 0 else w.div + 1 } =
    { w.apartFromDebounce with
      cyc := w.apartFromDebounce.cyc + 1#32
      div := if w.apartFromDebounce.div + 1 = w.apartFromDebounce.params.k then 0 else w.apartFromDebounce.div + 1 } := rfl
  rw [hissue, countStep_apartFromDebounce hv, hcount, sampleStep_apartFromDebounce hu]
  rfl

/-- What a completed cycle writes, written out. -/
theorem cycleSteps_eq {rx : Sample} {s t : State} (ht : cycleSteps rx s = .ok t) :
    t = { s.cycled rx with descs := t.descs, pend := t.pend, head := t.head, scratch := t.scratch } :=
  eq_of_apartFromDebounce (cycleSteps_apartFromDebounce ht)

/-! ### What an operation that completes has done -/

/-- The ways an operation `i` completes from `s` in `t`. -/
inductive Performed (s : State) : Instr → State → Prop where
  | reset : Performed s .reset { State.powerUp s.params s.nSlots with
      inbox := s.inbox, outbox := s.outbox, draws := s.draws }
  /-- `raise Fatal` in a command or in a transition on its own: nothing the operation did stands (R246, log 22). -/
  | halted (i : Instr) (code : FatalCode) : s.halted = false →
      Performed s i { s with halted := true, err := code.code }
  | registered (c : BitVec 4) (nv mp ms : Word) (kind : Kind) (mode : Mode) (dc dop : Ticks) (t : State) :
      s.halted = false → registerSteps c nv mp ms kind mode dc dop s = .ok t →
      Performed s (.register c nv mp ms kind mode dc dop) t
  | started : s.halted = false → s.armed = false → Performed s .start (issueTransfer { s with armed := true })
  | outputSet (w : Sample) : s.halted = false → Performed s (.setout w) { s with outw := w }
  | answered (h : Nat) (d : Descriptor) : s.halted = false → s.descs[h]? = some d →
      Performed s (.rddeb h) (respond (d.debounced.setWidth 32) s)
  | taken (c : BitVec 4) : s.halted = false → Performed s (.take c) (respond (s.pendOf c) (s.setPend c 0#32))
  | cycled (rx : Sample) (t : State) : s.halted = false → s.armed = true → cycleSteps rx s = .ok t →
      Performed s (.xferDone rx) t
  /-- The halt of Fatal(4), over what R246 says stands. -/
  | abandoned (rx : Sample) (code : FatalCode) : s.halted = false → s.armed = true →
      cycleSteps rx s = .error (.fatal code) →
      Performed s (.xferDone rx) { scanRangeResidue rx s with halted := true, err := code.code }
  /-- A transition on its own, which only a selector's frame asks for (log 9). -/
  | fired (i : Instr) (t : State) : i.format ≠ .pin → i.format ≠ .cmd → i.format ≠ .link → s.halted = false →
      t.apartFromDebounce = s.apartFromDebounce → t.configs = s.configs → Performed s i t

theorem performed_of_finish {i : Instr} {s t : State} {r : Except Abort State} (hrun : s.halted = false)
    (hok : ∀ u, r = .ok u → Performed s i u) (ht : finish s r = .next t) : Performed s i t := by
  rcases finish_next.mp ht with hu | ⟨code, -, rfl⟩
  · exact hok t hu
  · rw [raiseFatal_running code hrun]
    exact .halted i code hrun

theorem performed_of_execXferDone {rx : Sample} {s t : State} (ht : execXferDone rx s = .next t) :
    Performed s (.xferDone rx) t := by
  obtain ⟨hrun, harmed, hc | ⟨code, hc, rfl⟩⟩ := execXferDone_next.mp ht
  · exact .cycled rx t hrun harmed hc
  · have hresidue : (scanRangeResidue rx s).halted = false := by
      obtain ⟨_, _, _, _, -, heq⟩ := scanRangeResidue_frame rx s
      rw [heq]
      exact hrun
    rw [raiseFatal_running code hresidue]
    exact .abandoned rx code hrun harmed hc

/-- Every operation that completes has done one of these. -/
theorem performed_of_exec {i : Instr} {s t : State} (ht : exec i s = .next t) : Performed s i t := by
  cases i using instr_cases_by_row with
  | reset => cases ht; exact .reset
  | register c nv mp ms kind mode dc dop =>
    obtain ⟨hrun, hf⟩ := whileRunning_next.mp ht
    exact performed_of_finish hrun (fun u hu => .registered _ _ _ _ _ _ _ _ u hrun hu) hf
  | start =>
    obtain ⟨hrun, harmed, rfl⟩ := execStart_next.mp ht
    exact .started hrun harmed
  | setout w =>
    obtain ⟨hrun, hu⟩ := whileRunning_next.mp ht
    cases hu
    exact .outputSet w hrun
  | rddeb h =>
    obtain ⟨hrun, d, hd, rfl⟩ := execRddeb_next.mp ht
    exact .answered h d hrun hd
  | take c =>
    obtain ⟨hrun, hu⟩ := whileRunning_next.mp ht
    cases hu
    exact .taken c hrun
  | xferDone rx => exact performed_of_execXferDone ht
  | disp row pos =>
    obtain ⟨hrun, -, -, hf⟩ := fireDisp_next.mp (exec_ofDisp row pos s ▸ ht)
    exact performed_of_finish hrun (fun u hu => .fired _ u (by simp [format_ofDisp]) (by simp [format_ofDisp])
      (by simp [format_ofDisp]) hrun (runDisp_apartFromDebounce hu) (runDisp_configs hu)) hf
  | pb row h =>
    obtain ⟨hrun, d, -, -, -, rfl⟩ := firePb_next.mp (exec_ofPb row h s ▸ ht)
    exact .fired _ _ (by simp [format_ofPb]) (by simp [format_ofPb]) (by simp [format_ofPb]) hrun
      (runPb_apartFromDebounce row h s) (runPb_configs row h s)
  | settle row h =>
    obtain ⟨hrun, d, -, -, rfl⟩ := fireSettle_next.mp (exec_ofSettle row h s ▸ ht)
    exact .fired _ _ (by simp [format_ofSettle]) (by simp [format_ofSettle]) (by simp [format_ofSettle]) hrun
      (runSettle_apartFromDebounce row h s) (runSettle_configs row h s)
  | pair row h =>
    obtain ⟨hrun, d, -, -, -, rfl⟩ := firePair_next.mp (exec_ofPair row h s ▸ ht)
    exact .fired _ _ (by simp [format_ofPair]) (by simp [format_ofPair]) (by simp [format_ofPair]) hrun
      (runPair_apartFromDebounce row h s) (runPair_configs row h s)
  | tick row h =>
    obtain ⟨hrun, d, -, -, hf⟩ := fireTick_next.mp (exec_ofTick row h s ▸ ht)
    exact performed_of_finish hrun (fun u hu => .fired _ u (by simp [format_ofTick]) (by simp [format_ofTick])
      (by simp [format_ofTick]) hrun (runTick_apartFromDebounce hu) (runTick_configs hu)) hf

/-! ### Write authority (R234, R47) -/

theorem scanRangeResidue_configs (rx : Sample) (s : State) : (scanRangeResidue rx s).configs = s.configs :=
  dispatchPrefix_configs _ _ (beginScan rx s)

theorem allocate_frame (d : Descriptor) (bp : Nat) (bs : Option Nat) (s : State) :
    allocate d bp bs s = { s with descs := s.descs ++ [d], reg := (allocate d bp bs s).reg } := by
  cases bs <;> rfl

/-- Settles O50: of the ways to complete each writes its own registers alone. -/
theorem writeAuthority : Obligations.WriteAuthority := by
  intro i s t ht hreset
  cases performed_of_exec ht with
  | reset => exact absurd rfl hreset
  | halted _ code _ => simp
  | registered c nv mp ms kind mode dc dop _ _ hsteps =>
    obtain ⟨-, -, -, bp, bs, -, -, -, -, rfl⟩ := registerSteps_ok.mp hsteps
    rw [allocate_frame]
    simp
  | started | outputSet | answered | taken => simp
  | cycled rx _ _ _ hc =>
    have hconfigs : t.descs.map Descriptor.config = s.descs.map Descriptor.config := cycleSteps_configs hc
    refine ⟨fun _ => ⟨?_, hconfigs⟩, fun _ => ?_, fun _ => ?_, fun hx => absurd rfl (hx rx)⟩ <;>
      rw [cycleSteps_eq hc] <;> rfl
  | abandoned rx code =>
    have hconfigs : (scanRangeResidue rx s).descs.map Descriptor.config = s.descs.map Descriptor.config :=
      scanRangeResidue_configs rx s
    obtain ⟨_, _, _, _, -, heq⟩ := scanRangeResidue_frame rx s
    refine ⟨fun _ => ⟨?_, hconfigs⟩, fun _ => ?_, fun _ => ?_, fun hx => absurd rfl (hx rx)⟩ <;>
      simp only [heq]
  | fired _ _ _ _ _ _ hapart hconfigs =>
    rw [eq_of_apartFromDebounce hapart]
    exact ⟨fun _ => ⟨rfl, hconfigs⟩, fun _ => rfl, fun _ => rfl, fun _ => ⟨rfl, rfl, rfl, rfl⟩⟩

/-- Settles O51: a command's only write of D is REGISTER's new descriptor at its end. -/
theorem commandsLeaveDescriptorsAlone : Obligations.CommandsLeaveDescriptorsAlone := by
  intro i s t hcmd ht
  cases performed_of_exec ht with
  | reset | cycled | abandoned => cases hcmd
  | halted | started | outputSet | answered | taken => exact ⟨List.prefix_rfl, rfl, rfl, rfl, rfl, rfl, rfl⟩
  | registered c nv mp ms kind mode dc dop _ _ hsteps =>
    obtain ⟨-, -, -, bp, bs, -, -, -, -, rfl⟩ := registerSteps_ok.mp hsteps
    rw [allocate_frame]
    exact ⟨List.prefix_append .., rfl, rfl, rfl, rfl, rfl, rfl⟩
  | fired _ _ _ hnotcmd => exact absurd hcmd hnotcmd

/-! ### HALTED and ERR (R22, R241) -/

theorem fatalCode_range (code : FatalCode) : 1#4 ≤ code.code ∧ code.code ≤ 5#4 := by cases code <;> decide

theorem phaseInv_of_eq {s t : State} (hh : t.halted = s.halted) (he : t.err = s.err) (hs : s.PhaseInv) : t.PhaseInv := by
  rw [State.PhaseInv, hh, he]
  exact hs

theorem phaseInv_of_halt {t : State} (code : FatalCode) (hh : t.halted = true) (he : t.err = code.code) : t.PhaseInv := by
  rw [State.PhaseInv, hh, he]
  exact ⟨fun h => (nomatch h), fun _ => fatalCode_range code⟩

theorem exec_phaseInv {i : Instr} {s t : State} (hs : s.PhaseInv) (ht : exec i s = .next t) : t.PhaseInv := by
  cases performed_of_exec ht with
  | reset => exact ⟨fun _ => rfl, fun h => nomatch h⟩
  | halted _ code => exact phaseInv_of_halt code rfl rfl
  | abandoned rx code => exact phaseInv_of_halt code rfl rfl
  | started | outputSet | answered | taken => exact phaseInv_of_eq rfl rfl hs
  | registered c nv mp ms kind mode dc dop _ _ hsteps =>
    obtain ⟨-, -, -, bp, bs, -, -, -, -, rfl⟩ := registerSteps_ok.mp hsteps
    rw [allocate_frame]
    exact phaseInv_of_eq rfl rfl hs
  | cycled rx _ _ _ hc =>
    rw [cycleSteps_eq hc]
    exact phaseInv_of_eq rfl rfl hs
  | fired _ _ _ _ _ _ hapart =>
    rw [eq_of_apartFromDebounce hapart]
    exact phaseInv_of_eq rfl rfl hs

/-- Settles O54: RESET clears both registers, a halt writes both, and nothing else writes either. -/
theorem stepKeepsPhase : Obligations.StepKeepsPhase := by
  intro s t hs ht
  rcases step_next.mp ht with ⟨-, rfl⟩ | ⟨f, rest, i, -, -, hi⟩
  · exact hs
  · exact exec_phaseInv (s := { s with inbox := rest }) hs hi

/-! ### Steps, phases and the small commands -/

/-- Settles O7: the two cases of a step. -/
theorem stepRunsDecodedInstruction : Obligations.StepRunsDecodedInstruction := by
  refine ⟨fun s f rest i hin hdec => ?_, fun s hin => ?_⟩
  · exact step_of_decode_ok hin hdec
  · exact step_next.mpr (.inl ⟨hin, rfl⟩)

/-- R74: every operation but RESET asks first whether the engine is running. -/
theorem exec_halted {i : Instr} {s : State} (hh : s.halted = true) (hreset : i ≠ .reset) :
    exec i s = .fault .halted := by
  cases i using instr_cases_by_row with
  | reset => exact absurd rfl hreset
  | register | start | setout | rddeb | take | xferDone => exact whileRunning_halted hh
  | disp row pos => exact (exec_ofDisp row pos s).trans (whileRunning_halted hh)
  | pb row h => exact (exec_ofPb row h s).trans (whileRunning_halted hh)
  | settle row h => exact (exec_ofSettle row h s).trans (whileRunning_halted hh)
  | pair row h => exact (exec_ofPair row h s).trans (whileRunning_halted hh)
  | tick row h => exact (exec_ofTick row h s).trans (whileRunning_halted hh)

/-- Settles O8: the halt is tested before anything, and ARMED before the sample is read. -/
theorem nothingButResetInHalt : Obligations.NothingButResetInHalt := by
  refine ⟨fun s i hh hreset => exec_halted hh hreset, fun s rx hrun harmed => ?_⟩
  rw [exec, execXferDone, whileRunning_running hrun, if_neg (by rw [harmed]; exact Bool.false_ne_true)]

/-- Settles O10: RESET is a power-up with the host's side put back. -/
theorem resetKeepsTheHostsSide : Obligations.ResetKeepsTheHostsSide := by
  intro s t ht
  have hconst : t.constants = s.constants := execReset_constants ht
  cases ht
  exact ⟨rfl, (Prod.mk.inj hconst).2, rfl, rfl, rfl, rfl⟩

/-- Settles O17: in a running engine SETOUT is its one write. -/
theorem setoutWritesOutputWord : Obligations.SetoutWritesOutputWord :=
  fun _ _ hrun => whileRunning_running hrun

/-- Settles O19: the cleared word reads 0, so its WAKE falls, and the other words are read as before. -/
theorem takeReturnsAndClears : Obligations.TakeReturnsAndClears := by
  intro s c hrun
  have hcleared : (s.setPend c 0#32).pendOf c = 0#32 := pendOf_setPend_same s c 0#32
  refine ⟨_, whileRunning_running hrun, rfl, ?_, fun b hb => ?_⟩
  · simp only [State.wake, respond_eq, pendOf_emit, hcleared, bne_self_eq_false]
  · exact pendOf_setPend_other s 0#32 hb.symm

end Sys2Proof.Machine
end

section
/-!
PROOFS. The registry (10_state.md R35, R45, R46 (g)): every descriptor has a slot of its own, REGISTER keeps the registry
and D in agreement, and no other operation writes either.
-/

namespace Sys2Proof.Machine

open Sys2Proof

/-! ### Capacity (R156) -/

/-- Two descriptors with a common position are the same. -/
theorem eq_of_owns {s : State} (hs : s.RegistryInv) {h k : Nat} {d e : Descriptor} {p : Nat}
    (hd : s.descs[h]? = some d) (he : s.descs[k]? = some e) (hdp : d.Owns p) (hep : e.Owns p) : h = k :=
  Option.some.inj (((hs.owner p h).mpr ⟨d, hd, hdp⟩).symm.trans ((hs.owner p k).mpr ⟨e, he, hep⟩))

/-- Settles O15: the primary position maps the descriptors one to one into the slots. -/
theorem arenaCannotOverflow : Obligations.ArenaCannotOverflow := by
  intro s hs
  have hlookup (h : Fin s.descs.length) : s.descs[h.val]? = some s.descs[h.val] := List.getElem?_eq_getElem h.isLt
  have hinj : Function.Injective fun h : Fin s.descs.length =>
      (⟨s.descs[h.val].bitPrimary.toNat, hs.in_range h _ _ (hlookup h) (.inl rfl)⟩ : Fin s.nSlots) := by
    intro h k hhk
    exact Fin.ext (eq_of_owns hs (hlookup h) (hlookup k) (.inl rfl) (.inl (Fin.mk.inj hhk)))
  have hcard := Fintype.card_le_of_injective _ hinj
  rwa [Fintype.card_fin, Fintype.card_fin] at hcard

/-! ### REGISTER (R155) -/

theorem getElem?_concat_eq_some_iff {α : Type} {l : List α} {a b : α} {h : Nat} :
    (l ++ [a])[h]? = some b ↔ l[h]? = some b ∨ h = l.length ∧ b = a := by
  rcases Nat.lt_trichotomy h l.length with hlt | heq | hgt
  · rw [List.getElem?_append_left hlt]
    simp [Nat.ne_of_lt hlt]
  · subst heq
    simp [eq_comm]
  · rw [List.getElem?_eq_none (by simpa using hgt), List.getElem?_eq_none (Nat.le_of_lt hgt)]
    simp [Nat.ne_of_gt hgt]

/-- REG[p] after a slot is taken. -/
theorem slot_setSlot {s : State} {q h : Nat} (hq : q < s.nSlots) (p : Nat) :
    (s.setSlot q h).slot p = if p = q then some h else s.slot p := by
  rw [State.slot, setSlot_reg, List.getElem?_set]
  by_cases hpq : p = q
  · subst hpq
    rw [if_pos rfl, if_pos rfl, if_pos (nSlots_eq s ▸ hq), Option.getD_some]
  · rw [if_neg (Ne.symm hpq), if_neg hpq, State.slot]

/-- The positions that REGISTER found for a new descriptor `d`: free, below N, and all that `d` owns. -/
structure FreeFor (s : State) (d : Descriptor) (bp : Nat) (bs : Option Nat) : Prop where
  owns     : ∀ p, d.Owns p ↔ p = bp ∨ bs = some p
  below    : ∀ p, d.Owns p → p < s.nSlots
  free     : ∀ p, d.Owns p → s.slot p = none
  distinct : d.kind = .pair → d.bitPrimary ≠ d.bitSecondary
  single   : d.kind = .pushbutton → d.bitSecondary = 0#5

theorem slot_allocate {s : State} {d : Descriptor} {bp : Nat} {bs : Option Nat} (hf : FreeFor s d bp bs) (p : Nat)
    [Decidable (d.Owns p)] :
    (allocate d bp bs s).slot p = if d.Owns p then some s.ndesc else s.slot p := by
  have hbp : bp < s.nSlots := hf.below bp ((hf.owns bp).mpr (.inl rfl))
  have hfirst := slot_setSlot (s := { s with descs := s.descs ++ [d] }) (h := s.ndesc) hbp
  cases bs with
  | none =>
    have hiff : d.Owns p ↔ p = bp := by simp [hf.owns p]
    simp only [hiff]
    exact hfirst p
  | some q =>
    have hq : q < (State.setSlot { s with descs := s.descs ++ [d] } bp s.ndesc).nSlots := by
      simpa [nSlots_eq] using hf.below q ((hf.owns q).mpr (.inr rfl))
    have hiff : d.Owns p ↔ p = q ∨ p = bp := by rw [hf.owns p, Option.some_inj, or_comm, eq_comm (a := q)]
    simp only [hiff, ite_or]
    exact (slot_setSlot hq p).trans (by rw [hfirst p]; rfl)

theorem allocate_nSlots (d : Descriptor) (bp : Nat) (bs : Option Nat) (s : State) :
    (allocate d bp bs s).nSlots = s.nSlots :=
  (Prod.mk.inj (allocate_constants d bp bs s)).2

/-- R155: a new descriptor on free positions keeps the registry and D in agreement. -/
theorem allocate_registryInv {s : State} {d : Descriptor} {bp : Nat} {bs : Option Nat} (hs : s.RegistryInv)
    (hf : FreeFor s d bp bs) : (allocate d bp bs s).RegistryInv := by
  have hdescs : (allocate d bp bs s).descs = s.descs ++ [d] := by rw [allocate_frame]
  constructor
  · rw [allocate_nSlots]
    exact hs.slots_le
  · intro p h
    classical
    rw [slot_allocate hf, hdescs]
    simp only [getElem?_concat_eq_some_iff]
    by_cases hp : d.Owns p
    · rw [if_pos hp, Option.some_inj]
      constructor
      · rintro rfl
        exact ⟨d, .inr ⟨rfl, rfl⟩, hp⟩
      · rintro ⟨e, he | ⟨rfl, -⟩, hep⟩
        · have htaken := (hs.owner p h).mpr ⟨e, he, hep⟩
          rw [hf.free p hp] at htaken
          cases htaken
        · rfl
    · rw [if_neg hp, hs.owner p h]
      constructor
      · rintro ⟨e, he, hep⟩
        exact ⟨e, .inl he, hep⟩
      · rintro ⟨e, he | ⟨-, rfl⟩, hep⟩
        · exact ⟨e, he, hep⟩
        · exact absurd hep hp
  · intro h e p he hep
    rw [hdescs, getElem?_concat_eq_some_iff] at he
    rw [allocate_nSlots]
    rcases he with he | ⟨-, rfl⟩
    · exact hs.in_range h e p he hep
    · exact hf.below p hep
  · intro h e he hk
    rw [hdescs, getElem?_concat_eq_some_iff] at he
    rcases he with he | ⟨-, rfl⟩
    · exact hs.distinct h e he hk
    · exact hf.distinct hk
  · intro h e he hk
    rw [hdescs, getElem?_concat_eq_some_iff] at he
    rcases he with he | ⟨-, rfl⟩
    · exact hs.secondary h e he hk
    · exact hf.single hk

/-- A position found in a mask fits the 5 bits of its field. -/
theorem maskPosition_lt {dir : ScanDir} {m : Word} {p : Nat} (hp : maskPosition dir m = .ok p) : p < 32 := by
  rw [maskPosition] at hp
  split at hp
  · cases hp
  · next q hscan =>
    cases hp
    exact BitVec.lt_of_getLsbD (scan_sets hscan)

/-- R152: a secondary position is found for a Pair alone. -/
theorem secondaryPosition_ok {dir : ScanDir} {kind : Kind} {ms : Word} {bs : Option Nat}
    (hq : secondaryPosition dir kind ms = .ok bs) :
    kind = .pushbutton ∧ bs = none ∨ kind = .pair ∧ ∃ q, bs = some q ∧ q < 32 := by
  cases kind with
  | pushbutton => cases hq; exact .inl ⟨rfl, rfl⟩
  | pair =>
    simp only [secondaryPosition] at hq
    split at hq
    · cases hq
    · next q hpos =>
      cases hq
      exact .inr ⟨rfl, q, rfl, maskPosition_lt hpos⟩

/-- R154: the positions that pass both checks are below N, free and distinct. -/
theorem positions_of_checks {s : State} {bp : Nat} {bs : Option Nat} (hrange : outOfRange s bp bs = false)
    (hfree : doubled s bp bs = false) :
    (∀ p, p = bp ∨ bs = some p → p < s.nSlots ∧ s.slot p = none) ∧ bs ≠ some bp := by
  have hin : ¬ (s.nSlots ≤ bp ∨ ∃ p, bs = some p ∧ s.nSlots ≤ p) := by
    rw [← outOfRange_iff, hrange]
    exact Bool.false_ne_true
  have hno : ¬ (s.slot bp ≠ none ∨ ∃ p, bs = some p ∧ (p = bp ∨ s.slot p ≠ none)) := by
    rw [← doubled_iff, hfree]
    exact Bool.false_ne_true
  push Not at hin hno
  refine ⟨fun p hp => ?_, fun hbs => (hno.2 bp hbs).1 rfl⟩
  rcases hp with rfl | hp
  · exact ⟨hin.1, hno.1⟩
  · exact ⟨hin.2 p hp, (hno.2 p hp).2⟩

/-- The descriptor that REGISTER makes of positions it found is free to take them. -/
theorem freeFor_of_checks {s : State} {nv ms : Word} {kind : Kind} {dir : ScanDir} {bp : Nat} {bs : Option Nat}
    (c : BitVec 4) (mode : Mode) (dc dop : Ticks) (hbp : bp < 32) (hq : secondaryPosition dir kind ms = .ok bs)
    (hrange : outOfRange s bp bs = false) (hfree : doubled s bp bs = false) :
    FreeFor s (newDescriptor c nv bp bs kind mode dc dop) bp bs := by
  obtain ⟨hpos, hne⟩ := positions_of_checks hrange hfree
  have hprimary : (BitVec.ofNat 5 bp).toNat = bp := Nat.mod_eq_of_lt hbp
  have howns : ∀ p, (newDescriptor c nv bp bs kind mode dc dop).Owns p ↔ p = bp ∨ bs = some p := by
    rcases secondaryPosition_ok hq with ⟨rfl, rfl⟩ | ⟨rfl, q, rfl, hq32⟩
    · simp [Descriptor.Owns, newDescriptor, hprimary]
    · have hsecondary : (BitVec.ofNat 5 q).toNat = q := Nat.mod_eq_of_lt hq32
      simp [Descriptor.Owns, newDescriptor, hprimary, hsecondary, eq_comm]
  refine ⟨howns, fun p hp => (hpos p ((howns p).mp hp)).1, fun p hp => (hpos p ((howns p).mp hp)).2,
    fun hk => ?_, fun hk => ?_⟩
  · rcases secondaryPosition_ok hq with ⟨rfl, -⟩ | ⟨-, q, rfl, hq32⟩
    · cases hk
    · have hsecondary : (BitVec.ofNat 5 q).toNat = q := Nat.mod_eq_of_lt hq32
      intro heq
      have hbpq : (BitVec.ofNat 5 bp).toNat = (BitVec.ofNat 5 q).toNat := congrArg BitVec.toNat heq
      exact hne (by rw [← hprimary, hbpq, hsecondary])
  · rcases secondaryPosition_ok hq with ⟨-, rfl⟩ | ⟨rfl, -⟩
    · rfl
    · cases hk

/-- An accepted registration is an allocation on free positions, and the response. -/
theorem registerSteps_allocates {c : BitVec 4} {nv mp ms : Word} {kind : Kind} {mode : Mode} {dc dop : Ticks}
    {s t : State} (ht : registerSteps c nv mp ms kind mode dc dop s = .ok t) :
    ∃ bp bs, FreeFor s (newDescriptor c nv bp bs kind mode dc dop) bp bs ∧
      t = respond (BitVec.ofNat 32 s.ndesc) (allocate (newDescriptor c nv bp bs kind mode dc dop) bp bs s) := by
  obtain ⟨-, -, -, bp, bs, hbp, hbs, hrange, hfree, rfl⟩ := registerSteps_ok.mp ht
  exact ⟨bp, bs, freeFor_of_checks c mode dc dop (maskPosition_lt hbp) hbs hrange hfree, rfl⟩

/-! ### Every operation -/

theorem registryInv_of_descs {s t : State} (hs : s.RegistryInv) (hreg : t.reg = s.reg) (hdescs : t.descs = s.descs) :
    t.RegistryInv :=
  registryInv_of_configs hreg (congrArg (List.map Descriptor.config) hdescs) hs

theorem powerUp_registryInv (params : Params) {n : Nat} (hn : n ≤ 32) : (State.powerUp params n).RegistryInv where
  slots_le := by simpa [nSlots_eq, State.powerUp] using hn
  owner p h := by
    rw [powerUp_slot]
    simp [State.powerUp]
  in_range h d p hd := by simp [State.powerUp] at hd
  distinct h d hd := by simp [State.powerUp] at hd
  secondary h d hd := by simp [State.powerUp] at hd

theorem exec_registryInv {i : Instr} {s t : State} (hs : s.RegistryInv) (ht : exec i s = .next t) : t.RegistryInv := by
  cases performed_of_exec ht with
  | reset => exact registryInv_of_descs (powerUp_registryInv s.params hs.slots_le) rfl rfl
  | registered c nv mp ms kind mode dc dop _ _ hsteps =>
    obtain ⟨bp, bs, hfree, rfl⟩ := registerSteps_allocates hsteps
    exact registryInv_of_descs (allocate_registryInv hs hfree) rfl rfl
  | halted | started | outputSet | answered | taken => exact registryInv_of_descs hs rfl rfl
  | cycled rx _ _ _ hc =>
    refine registryInv_of_configs ?_ (cycleSteps_configs hc) hs
    rw [cycleSteps_eq hc]
    rfl
  | abandoned rx code =>
    refine registryInv_of_configs ?_ (scanRangeResidue_configs rx s) hs
    obtain ⟨_, _, _, _, -, heq⟩ := scanRangeResidue_frame rx s
    rw [heq]
  | fired _ _ _ _ _ _ hapart hconfigs => exact registryInv_of_configs (reg_of_apartFromDebounce hapart) hconfigs hs

/-- Settles O55: REGISTER extends the registry and D together, RESET empties both, and nothing else writes either. -/
theorem stepKeepsRegistry : Obligations.StepKeepsRegistry := by
  intro s t hs ht
  rcases step_next.mp ht with ⟨-, rfl⟩ | ⟨f, rest, i, -, -, hi⟩
  · exact hs
  · exact exec_registryInv (s := { s with inbox := rest }) (registryInv_of_descs hs rfl rfl) hi

end Sys2Proof.Machine
end

section
/-!
PROOFS. Commits and their NOTIFY (20_memory.md R67, 47_notification.md R224): every part of a scan cycle that changes a
`debounced` has set the descriptor's bits in its consumer's word, and the bits last.
-/

namespace Sys2Proof.Machine

open Sys2Proof

/-- From `s` to `t` no configuration or pending bit is lost, and whatever `debounced` changed is notified in `t`. -/
structure State.CommitsNotified (s t : State) : Prop where
  configs  : t.configs = s.configs
  lasts    : s.PendingLasts t
  notified : ∀ (h : Nat) (d e : Descriptor), s.descs[h]? = some d → t.descs[h]? = some e → e.debounced ≠ d.debounced →
    t.pendOf d.consumer &&& d.notifyValue = d.notifyValue

/-- Bits that are set in a word stay set in a word that holds it. -/
theorem covers_of_lasts {a b v : Word} (hab : a ||| b = b) (hav : a &&& v = v) : b &&& v = v := by
  refine BitVec.eq_of_getLsbD_eq fun i _ => ?_
  have hb : b.getLsbD i = (a.getLsbD i || b.getLsbD i) := by rw [← BitVec.getLsbD_or, hab]
  have hv : v.getLsbD i = (a.getLsbD i && v.getLsbD i) := by rw [← BitVec.getLsbD_and, hav]
  rw [BitVec.getLsbD_and, hb, hv]
  cases a.getLsbD i <;> simp

theorem consumer_of_config {d e : Descriptor} (hc : e.config = d.config) :
    e.consumer = d.consumer ∧ e.notifyValue = d.notifyValue :=
  ⟨show e.config.consumer = d.config.consumer by rw [hc], show e.config.notifyValue = d.config.notifyValue by rw [hc]⟩

namespace State.CommitsNotified

/-- A write that leaves `debounced` and the configurations as they are commits nothing. -/
theorem of_debounced {s t : State} (hconfigs : t.configs = s.configs) (hpend : t.pend = s.pend)
    (hdeb : ∀ (h : Nat) (d e : Descriptor), s.descs[h]? = some d → t.descs[h]? = some e → e.debounced = d.debounced) :
    s.CommitsNotified t :=
  ⟨hconfigs, .of_pend hpend, fun h d e hd he hne => absurd (hdeb h d e hd he) hne⟩

theorem of_descs {s t : State} (hdescs : t.descs = s.descs) (hpend : t.pend = s.pend) : s.CommitsNotified t :=
  of_debounced (congrArg (List.map Descriptor.config) hdescs) hpend fun h d e hd he => by
    rw [hdescs, hd] at he
    rw [Option.some.inj he]

theorem refl (s : State) : s.CommitsNotified s := of_descs rfl rfl

theorem trans {s t u : State} (hst : s.CommitsNotified t) (htu : t.CommitsNotified u) : s.CommitsNotified u := by
  refine ⟨htu.configs.trans hst.configs, hst.lasts.trans htu.lasts, fun h d e hd he hne => ?_⟩
  obtain ⟨f, hf, hconfig⟩ := getElem?_of_configs htu.configs he
  by_cases hfirst : f.debounced = d.debounced
  · obtain ⟨g, hg, hconfig'⟩ := getElem?_of_configs hst.configs hf
    obtain rfl : g = d := Option.some.inj (hg.symm.trans hd)
    obtain ⟨hconsumer, hvalue⟩ := consumer_of_config hconfig'
    rw [hconsumer, hvalue]
    exact htu.notified h f e hf he (hfirst ▸ hne)
  · exact covers_of_lasts (htu.lasts d.consumer) (hst.notified h d f hd hf hfirst)

/-- A write of fields of one descriptor that are neither configuration nor `debounced`. -/
theorem modDesc (h : Nat) (f : Descriptor → Descriptor) (s : State)
    (hf : ∀ d, (f d).config = d.config ∧ (f d).debounced = d.debounced) : s.CommitsNotified (s.modDesc h f) := by
  refine of_debounced (modDesc_configs fun d => (hf d).1) rfl fun k d e hd he => ?_
  rw [modDesc_getElem?, hd] at he
  split at he <;> cases he
  · exact (hf d).2
  · rfl

/-- A move that does not notify must not commit. -/
theorem run {m : Move} {h : Nat} {s : State} {d : Descriptor} (hm : m.KeepsConfig)
    (hsilent : m.notifies = false → (m.write d).debounced = d.debounced) (hd : s.descs[h]? = some d) :
    s.CommitsNotified (m.run h s) := by
  have hpend := Move.run_pendOf (m := m) hd
  refine ⟨Move.run_configs hm, fun c => ?_, fun k e f he hf hne => ?_⟩
  · refine BitVec.eq_of_getLsbD_eq fun p _ => ?_
    have hkept := (hpend c p).mpr ∘ Or.inl
    rw [BitVec.getLsbD_or]
    cases hbit : (s.pendOf c).getLsbD p with
    | false => exact Bool.false_or _
    | true => rw [hkept hbit, Bool.true_or]
  · by_cases hk : h = k
    · subst hk
      obtain rfl : e = d := Option.some.inj (he.symm.trans hd)
      rw [Move.run_self he] at hf
      have hnotifies : m.notifies = true := by
        by_contra hnot
        have hlink : (m.write e).debounced = f.debounced := by
          rw [← Option.some.inj hf, Move.result]
          split <;> rfl
        exact hne (hlink ▸ hsilent (Bool.eq_false_iff.mpr hnot))
      refine BitVec.eq_of_getLsbD_eq fun p _ => ?_
      have hset := fun hv => (hpend e.consumer p).mpr (.inr ⟨hnotifies, rfl, hv⟩)
      rw [BitVec.getLsbD_and]
      cases hbit : e.notifyValue.getLsbD p with
      | false => exact Bool.and_false _
      | true => rw [hset hbit, Bool.true_and]
    · rw [Move.run_other hd hk, he] at hf
      exact absurd (congrArg Descriptor.debounced (Option.some.inj hf)).symm hne

end State.CommitsNotified

/-! ### The transitions -/

theorem pbMove_silent (row : PbRow) (d : Descriptor) :
    (pbMove row).notifies = false → ((pbMove row).write d).debounced = d.debounced := by
  cases row <;> simp [pbMove]

theorem settleMove_silent (row : SettleRow) (d : Descriptor) :
    (settleMove row).notifies = false → ((settleMove row).write d).debounced = d.debounced := by
  cases row <;> simp [settleMove]

theorem pairMove_silent (row : PairRow) (d : Descriptor) :
    (pairMove row).notifies = false → ((pairMove row).write d).debounced = d.debounced := by
  cases row <;> simp [pairMove]

theorem setRaw_commitsNotified (h : Nat) (v : BitVec 2) (s : State) : s.CommitsNotified (setRaw h v s) :=
  .modDesc h _ s fun _ => ⟨rfl, rfl⟩

theorem pbEvent_commitsNotified {h : Nat} {r : Bool} {s t : State} (ht : pbEvent h r s = .ok t) :
    s.CommitsNotified t := by
  obtain ⟨d, hd, rfl⟩ := pbEvent_ok.mp ht
  rw [runPb_eq_move]
  exact (setRaw_commitsNotified h (levelCode r) s).trans
    (.run (pbMove_keepsConfig _) (pbMove_silent _ _) (modDesc_same _ hd))

theorem pairEvent_commitsNotified {h : Nat} {rx : Sample} {s t : State} (ht : pairEvent h rx s = .ok t) :
    s.CommitsNotified t := by
  obtain ⟨d, hd, rfl⟩ := pairEvent_ok.mp ht
  rw [runPair_eq_move]
  exact (setRaw_commitsNotified h (pairCode d rx) s).trans
    (.run (pairMove_keepsConfig _) (pairMove_silent _ _) (modDesc_same _ hd))

theorem settle_commitsNotified {h : Nat} {s t : State} (ht : settle h s = .ok t) : s.CommitsNotified t := by
  obtain ⟨d, row, hd, -, rfl⟩ := settle_ok.mp ht
  rw [runSettle_eq_move]
  exact .run (settleMove_keepsConfig row) (settleMove_silent row d) hd

theorem setNext_commitsNotified (h : Nat) (n : Option Nat) (s : State) : s.CommitsNotified (setNext h n s) :=
  .modDesc h _ s fun _ => ⟨rfl, rfl⟩

theorem adsUnlink_commitsNotified (cur : Nat) (p nxt : Option Nat) (s : State) :
    s.CommitsNotified (adsUnlink cur p nxt s) := by
  cases p with
  | none =>
    have hhead : s.CommitsNotified { s with head := nxt } := .of_descs rfl rfl
    exact hhead.trans (setNext_commitsNotified cur none _)
  | some q => exact (setNext_commitsNotified q nxt s).trans (setNext_commitsNotified cur none _)

theorem tickExpire_commitsNotified {cur : Nat} {s t : State} (ht : tickExpire cur s = .ok t) :
    s.CommitsNotified t := by
  obtain ⟨d, u, -, hu, rfl⟩ := tickExpire_ok.mp ht
  have hcleared : s.CommitsNotified (s.modDesc cur fun e => { e with countdown := 0#16 }) :=
    .modDesc cur _ s fun _ => ⟨rfl, rfl⟩
  exact (hcleared.trans (settle_commitsNotified hu)).trans (adsUnlink_commitsNotified cur _ d.next u)

theorem runDisp_commitsNotified {row : DispRow} {pos : Nat} {s t : State} (ht : runDisp row pos s = .ok t) :
    s.CommitsNotified t := by
  have hclear (mask : Word) : s.CommitsNotified (clearWork mask s) := .of_descs rfl rfl
  cases row with
  | none => cases ht; exact hclear _
  | pb =>
    obtain ⟨h, -, hu⟩ := runDispPb_ok.mp ht
    exact (hclear _).trans (pbEvent_commitsNotified hu)
  | pair =>
    obtain ⟨h, d, -, -, hu⟩ := runDispPair_ok.mp ht
    exact (hclear _).trans (pairEvent_commitsNotified hu)

/-! ### The loops and the cycle -/

theorem dispatchLoop_commitsNotified {n : Nat} {dir : ScanDir} {s t : State} (ht : dispatchLoop n dir s = .ok t) :
    s.CommitsNotified t := by
  fun_induction dispatchLoop n dir s with
  | case1 | case3 => cases ht; exact .refl _
  | case2 | case4 => cases ht
  | case5 n dir s pos _ u hu ih => exact (runDisp_commitsNotified (dispatchAt_ok.mp hu).2).trans (ih ht)

theorem dispatchPrefix_commitsNotified (n : Nat) (dir : ScanDir) (s : State) :
    s.CommitsNotified (dispatchPrefix n dir s) := by
  fun_induction dispatchPrefix n dir s with
  | case1 | case2 | case3 => exact .refl _
  | case4 n dir s pos _ u hu ih => exact (runDisp_commitsNotified (dispatchAt_ok.mp hu).2).trans ih

theorem tickWalk_commitsNotified {n : Nat} {cur : Option Nat} {s t : State} (ht : tickWalk n cur s = .ok t) :
    s.CommitsNotified t := by
  fun_induction tickWalk n cur s with
  | case1 => cases ht; exact .refl _
  | case2 | case3 | case5 => cases ht
  | case4 n cur s d _ _ ih =>
    have hheld : s.CommitsNotified (tickHold cur s) := .modDesc cur _ s fun _ => ⟨rfl, rfl⟩
    have hcursor : (tickHold cur s).CommitsNotified (setPrevNode (some cur) (tickHold cur s)) := .of_descs rfl rfl
    exact (hheld.trans hcursor).trans (ih ht)
  | case6 n cur s d _ _ u hu ih => exact (tickExpire_commitsNotified hu).trans (ih ht)

theorem tick_commitsNotified {s t : State} (ht : tick s = .ok t) : s.CommitsNotified t := by
  obtain ⟨u, hu, rfl⟩ := tick_ok.mp ht
  have hstart : s.CommitsNotified (setPrevNode none s) := .of_descs rfl rfl
  exact (hstart.trans (tickWalk_commitsNotified hu)).trans (.of_descs rfl rfl)

theorem sampleStep_commitsNotified {rx : Sample} {s t : State} (ht : sampleStep rx s = .ok t) :
    s.CommitsNotified t := by
  rw [sampleStep] at ht
  split at ht
  · cases ht; exact .of_descs rfl rfl
  · obtain ⟨u, hu, rfl⟩ := scanSample_ok.mp ht
    have hbegin : s.CommitsNotified (beginScan rx s) := .of_descs rfl rfl
    exact (hbegin.trans (dispatchLoop_commitsNotified hu)).trans (.of_descs rfl rfl)

theorem countStep_commitsNotified {s t : State} (ht : countStep s = .ok t) : s.CommitsNotified t := by
  unfold countStep at ht
  split at ht
  · have hcount : s.CommitsNotified { s with cyc := s.cyc + 1#32, div := 0 } := .of_descs rfl rfl
    exact hcount.trans (tick_commitsNotified ht)
  · cases ht; exact .of_descs rfl rfl

theorem scanRangeResidue_commitsNotified (rx : Sample) (s : State) : s.CommitsNotified (scanRangeResidue rx s) := by
  have hbegin : s.CommitsNotified (beginScan rx s) := .of_descs rfl rfl
  exact (hbegin.trans (dispatchPrefix_commitsNotified _ _ _)).trans (.of_descs rfl rfl)

/-- Settles O49: every commit of a cycle, or of the part of one that Fatal(4) leaves, is paired with its NOTIFY. -/
theorem everyCommitIsNotified : Obligations.EveryCommitIsNotified := by
  intro s t rx h d e ht hd he hne
  have hcycle : s.CommitsNotified t := by
    cases performed_of_execXferDone ht with
    | halted => exact .of_descs rfl rfl
    | cycled _ _ _ _ hc =>
      obtain ⟨u, v, hu, hv, rfl⟩ := cycleSteps_ok.mp hc
      exact ((sampleStep_commitsNotified hu).trans (countStep_commitsNotified hv)).trans (.of_descs rfl rfl)
    | abandoned => exact (scanRangeResidue_commitsNotified rx s).trans (.of_descs rfl rfl)
    | fired _ _ _ _ hnotlink => exact absurd rfl hnotlink
  exact hcycle.notified h d e hd he hne

end Sys2Proof.Machine
end

section
/-!
PROOFS. What the event of a cycle, and a settle, make of one descriptor (44_pushbutton_fsm.md R171 to R189,
45_pair_logic.md R201 to R204): the move the descriptor selects keeps R46 (b), (c), (d), (f), commits exactly where it
notifies, and enters the set exactly where it starts the timer.
-/

namespace Sys2Proof.Machine

open Sys2Proof

/-! ### Soundness of a Pushbutton, by its state (R46 (c), (d)) -/

section
variable {d : Descriptor}

theorem Descriptor.Sound.of_closed (hk : d.kind = .pushbutton) (hm : d.machineState = .closed)
    (hdeb : d.debounced = 0#2) (hlevel : d.raw = 0#2 ∨ d.raw = 1#2) : d.Sound where
  closed _ _ := hdeb
  opened _ h := nomatch hm.symm.trans h
  opening _ h := nomatch hm.symm.trans h
  closing _ h := nomatch hm.symm.trans h
  pairCode h := nomatch hk.symm.trans h
  pairState h := nomatch hk.symm.trans h
  level _ := hlevel

theorem Descriptor.Sound.of_opened (hk : d.kind = .pushbutton) (hm : d.machineState = .opened)
    (hdeb : d.debounced = 1#2) (hlevel : d.raw = 0#2 ∨ d.raw = 1#2) : d.Sound where
  closed _ h := nomatch hm.symm.trans h
  opened _ _ := hdeb
  opening _ h := nomatch hm.symm.trans h
  closing _ h := nomatch hm.symm.trans h
  pairCode h := nomatch hk.symm.trans h
  pairState h := nomatch hk.symm.trans h
  level _ := hlevel

theorem Descriptor.Sound.of_opening (hk : d.kind = .pushbutton) (hm : d.machineState = .opening)
    (htimer : d.durationOpening ≠ 0#16 ∧ 1#16 ≤ d.countdown ∧ d.countdown ≤ d.durationOpening)
    (hdeb : d.debounced = if d.mode = .immediate then 1#2 else 0#2) (hlevel : d.raw = 0#2 ∨ d.raw = 1#2) : d.Sound where
  closed _ h := nomatch hm.symm.trans h
  opened _ h := nomatch hm.symm.trans h
  opening _ _ := ⟨htimer.1, htimer.2.1, htimer.2.2, hdeb⟩
  closing _ h := nomatch hm.symm.trans h
  pairCode h := nomatch hk.symm.trans h
  pairState h := nomatch hk.symm.trans h
  level _ := hlevel

theorem Descriptor.Sound.of_closing (hk : d.kind = .pushbutton) (hm : d.machineState = .closing)
    (htimer : d.durationClosing ≠ 0#16 ∧ 1#16 ≤ d.countdown ∧ d.countdown ≤ d.durationClosing)
    (hdeb : d.debounced = if d.mode = .immediate then 0#2 else 1#2) (hlevel : d.raw = 0#2 ∨ d.raw = 1#2) : d.Sound where
  closed _ h := nomatch hm.symm.trans h
  opened _ h := nomatch hm.symm.trans h
  opening _ h := nomatch hm.symm.trans h
  closing _ _ := ⟨htimer.1, htimer.2.1, htimer.2.2, hdeb⟩
  pairCode h := nomatch hk.symm.trans h
  pairState h := nomatch hk.symm.trans h
  level _ := hlevel

theorem Descriptor.Sound.of_pair (hk : d.kind = .pair) (hdeb : d.debounced ≠ 0b11#2) (hm : d.machineState = .closed) :
    d.Sound where
  closed h := nomatch hk.symm.trans h
  opened h := nomatch hk.symm.trans h
  opening h := nomatch hk.symm.trans h
  closing h := nomatch hk.symm.trans h
  pairCode _ := hdeb
  pairState _ := hm
  level h := nomatch hk.symm.trans h

/-- A duration that is not zero is a countdown of its range. -/
theorem fresh_countdown {dur : Ticks} (hdur : dur ≠ 0#16) : dur ≠ 0#16 ∧ 1#16 ≤ dur ∧ dur ≤ dur :=
  ⟨hdur, by bv_omega, by bv_omega⟩

/-- The raw of a Pushbutton is the code of its level (R84). -/
theorem raw_eq_levelCode (hs : d.Sound) (hk : d.kind = .pushbutton) : d.raw = levelCode (d.raw.getLsbD 0) := by
  rcases hs.level hk with hraw | hraw <;> rw [hraw] <;> rfl

/-! ### The move that an event selects -/

/-- What a move selected by `d` keeps and means: R46 (b), (c), (d), (f) of what it leaves; a NOTIFY is a commit, of the
level in raw; the timer starts out of a settled state into a timer state, and is never stopped. -/
structure Move.Suits (m : Move) (d : Descriptor) : Prop where
  sound   : (m.write d).Sound
  settled : (m.write d).AgreesSettled
  commits : m.notifies = true ↔ (m.write d).debounced ≠ d.debounced
  level   : m.notifies = true → (m.write d).debounced = (m.write d).raw
  keeps   : (m.write d).raw = d.raw ∧ (m.write d).next = d.next
  starts  : m.starts = true → ¬ d.Timing ∧ (m.write d).Timing
  stays   : m.starts = false → ((m.write d).Timing ↔ d.Timing)

theorem Move.Suits.idle (hs : d.Sound) (ha : d.AgreesSettled) : Move.Suits ⟨id, false, false⟩ d where
  sound := hs
  settled := ha
  commits := by simp
  level h := nomatch h
  keeps := ⟨rfl, rfl⟩
  starts h := nomatch h
  stays _ := Iff.rfl

/-- A move that commits the level in raw and stays in a settled state. -/
theorem Move.Suits.of_instant {f : Descriptor → Descriptor} (hstill : ¬ d.Timing) (hsound : (f d).Sound)
    (hm : (f d).machineState = .closed ∨ (f d).machineState = .opened) (hsettled : (f d).AgreesSettled)
    (hcommits : (f d).debounced ≠ d.debounced) (hlevel : (f d).debounced = d.raw)
    (hkeeps : (f d).raw = d.raw ∧ (f d).next = d.next := by exact ⟨rfl, rfl⟩) : Move.Suits ⟨f, true, false⟩ d where
  sound := hsound
  settled := hsettled
  commits := iff_of_true rfl hcommits
  level _ := hlevel.trans hkeeps.1.symm
  keeps := hkeeps
  starts h := nomatch h
  stays _ := iff_of_false (fun ht => by rcases hm with hm | hm <;> simp [Descriptor.Timing, hm] at ht) hstill

/-- A move that starts the timer, and may commit the level in raw. -/
theorem Move.Suits.of_timer {f : Descriptor → Descriptor} {notifies : Bool} (hstill : ¬ d.Timing)
    (hsound : (f d).Sound) (hk : (f d).kind = .pushbutton)
    (hm : (f d).machineState = .opening ∨ (f d).machineState = .closing)
    (hcommits : notifies = true ↔ (f d).debounced ≠ d.debounced) (hlevel : notifies = true → (f d).debounced = d.raw)
    (hkeeps : (f d).raw = d.raw ∧ (f d).next = d.next := by exact ⟨rfl, rfl⟩) :
    Move.Suits ⟨f, notifies, true⟩ d where
  sound := hsound
  settled _ := by rcases hm with hm | hm <;> simp [hm]
  commits := hcommits
  level hn := (hlevel hn).trans hkeeps.1.symm
  keeps := hkeeps
  starts _ := ⟨hstill, hk, hm⟩
  stays h := nomatch h

section
variable (hs : d.Sound) (hk : d.kind = .pushbutton)
include hs hk

theorem agreesSettled_of_closed (hm : d.machineState = .closed) (hr : d.raw.getLsbD 0 = false) : d.AgreesSettled := by
  have hraw : d.raw = 0#2 := by rw [raw_eq_levelCode hs hk, hr]; rfl
  exact fun _ => ⟨fun _ => hraw, fun h => nomatch hm.symm.trans h⟩

theorem agreesSettled_of_opened (hm : d.machineState = .opened) (hr : d.raw.getLsbD 0 = true) : d.AgreesSettled := by
  have hraw : d.raw = 1#2 := by rw [raw_eq_levelCode hs hk, hr]; rfl
  exact fun _ => ⟨fun h => (nomatch hm.symm.trans h), fun _ => hraw⟩

/-- R172 to R174: out of Closed by an opening. -/
theorem pbMove_suits_opening (hm : d.machineState = .closed) (hr : d.raw.getLsbD 0 = true) :
    (pbMove (decodePbev (pbSelector d))).Suits d := by
  have hraw : d.raw = 1#2 := by rw [raw_eq_levelCode hs hk, hr]; rfl
  have hdeb : d.debounced = 0#2 := hs.closed hk hm
  have hstill : ¬ d.Timing := by simp [Descriptor.Timing, hm]
  rw [pbRow_of_closed_readsOpen hm hr]
  split
  · exact .of_instant hstill (.of_opened hk rfl rfl (.inr hraw)) (.inr rfl)
      (fun _ => ⟨fun h => (nomatch h), fun _ => hraw⟩) (by simp [hdeb]) hraw.symm
  · next hdur =>
    split
    · next hmode =>
      exact .of_timer hstill (.of_opening hk rfl (fresh_countdown hdur) (if_pos hmode).symm (.inr hraw)) hk (.inl rfl)
        (by simp [hdeb]) fun _ => hraw.symm
    · next hmode =>
      have hkept : d.debounced = if d.mode = .immediate then 1#2 else 0#2 := by rw [if_neg hmode, hdeb]
      exact .of_timer hstill (.of_opening hk rfl (fresh_countdown hdur) hkept (.inr hraw)) hk (.inl rfl)
        (by simp) fun h => nomatch h

/-- R175 to R177: out of Open by a closing. -/
theorem pbMove_suits_closing (hm : d.machineState = .opened) (hr : d.raw.getLsbD 0 = false) :
    (pbMove (decodePbev (pbSelector d))).Suits d := by
  have hraw : d.raw = 0#2 := by rw [raw_eq_levelCode hs hk, hr]; rfl
  have hdeb : d.debounced = 1#2 := hs.opened hk hm
  have hstill : ¬ d.Timing := by simp [Descriptor.Timing, hm]
  rw [pbRow_of_opened_readsClosed hm hr]
  split
  · exact .of_instant hstill (.of_closed hk rfl rfl (.inl hraw)) (.inl rfl)
      (fun _ => ⟨fun _ => hraw, fun h => nomatch h⟩) (by simp [hdeb]) hraw.symm
  · next hdur =>
    split
    · next hmode =>
      exact .of_timer hstill (.of_closing hk rfl (fresh_countdown hdur) (if_pos hmode).symm (.inl hraw)) hk (.inr rfl)
        (by simp [hdeb]) fun _ => hraw.symm
    · next hmode =>
      have hkept : d.debounced = if d.mode = .immediate then 0#2 else 1#2 := by rw [if_neg hmode, hdeb]
      exact .of_timer hstill (.of_closing hk rfl (fresh_countdown hdur) hkept (.inl hraw)) hk (.inr rfl)
        (by simp) fun h => nomatch h

/-- R178, R179: in a timer state. -/
theorem pbMove_suits_extend (hm : d.machineState = .opening ∨ d.machineState = .closing) :
    (pbMove (decodePbev (pbSelector d))).Suits d := by
  have hkeeps (dur : Ticks) (hsound : Descriptor.Sound { d with countdown := dur }) :
      Move.Suits ⟨fun _ => { d with countdown := dur }, false, false⟩ d :=
    { sound := hsound
      settled := fun _ => by rcases hm with hm | hm <;> simp [hm]
      commits := by simp
      level := fun h => nomatch h
      keeps := ⟨rfl, rfl⟩
      starts := fun h => nomatch h
      stays := fun _ => Iff.rfl }
  rcases hm with hm | hm
  · obtain ⟨hdur, -, -, hdeb⟩ := hs.opening hk hm
    rw [pbRow_of_opening hm]
    exact { hkeeps d.durationOpening (.of_opening hk hm (fresh_countdown hdur) hdeb (hs.level hk)) with }
  · obtain ⟨hdur, -, -, hdeb⟩ := hs.closing hk hm
    rw [pbRow_of_closing hm]
    exact { hkeeps d.durationClosing (.of_closing hk hm (fresh_countdown hdur) hdeb (hs.level hk)) with }

/-- The PBEV row that a sound Pushbutton selects suits it. -/
theorem pbMove_suits : (pbMove (decodePbev (pbSelector d))).Suits d := by
  cases hm : d.machineState with
  | closed =>
    cases hr : d.raw.getLsbD 0 with
    | false =>
      rw [pbRow_of_closed_readsClosed hm hr]
      exact .idle hs (agreesSettled_of_closed hs hk hm hr)
    | true => exact pbMove_suits_opening hs hk hm hr
  | opened =>
    cases hr : d.raw.getLsbD 0 with
    | false => exact pbMove_suits_closing hs hk hm hr
    | true =>
      rw [pbRow_of_opened_readsOpen hm hr]
      exact .idle hs (agreesSettled_of_opened hs hk hm hr)
  | opening => exact pbMove_suits_extend hs hk (.inl hm)
  | closing => exact pbMove_suits_extend hs hk (.inr hm)

end

/-- A commit of the definite code in raw (R204). -/
theorem pairCommit_suits (hs : d.Sound) (hk : d.kind = .pair) {code : BitVec 2} (hraw : d.raw = code)
    (hcode : code ≠ 0b11#2) (hnew : code ≠ d.debounced) :
    Move.Suits ⟨fun e => { e with debounced := code }, true, false⟩ d where
  sound := .of_pair hk hcode (hs.pairState hk)
  settled h := nomatch hk.symm.trans h
  commits := by simpa using hnew
  level _ := hraw.symm
  keeps := ⟨rfl, rfl⟩
  starts h := nomatch h
  stays _ := Iff.rfl

/-- The PAIR row that a sound Pair selects suits it. -/
theorem pairMove_suits (hs : d.Sound) (hk : d.kind = .pair) : (pairMove (decodePair (pairSelector d))).Suits d := by
  have hidle : Move.Suits ⟨id, false, false⟩ d := .idle hs fun h => nomatch hk.symm.trans h
  have hcodes : d.raw = 0b00#2 ∨ d.raw = 0b01#2 ∨ d.raw = 0b10#2 ∨ d.raw = 0b11#2 := by
    generalize d.raw = code
    revert code
    decide
  rcases hcodes with hraw | hraw | hraw | hraw
  · rw [pairRow_of_raw00 hraw]
    exact hidle
  · rw [pairRow_of_raw01 hraw]
    split
    · exact hidle
    · next hnew => exact pairCommit_suits hs hk hraw (by decide) hnew
  · rw [pairRow_of_raw10 hraw]
    split
    · exact hidle
    · next hnew => exact pairCommit_suits hs hk hraw (by decide) hnew
  · rw [pairRow_of_raw11 hraw]
    exact hidle

end

/-! ### The event of a cycle -/

/-- A descriptor with raw as the sample gives it (R171, R201). -/
def Descriptor.sampled (d : Descriptor) (rx : Sample) : Descriptor :=
  { d with raw := match d.kind with
    | .pushbutton => levelCode (sampleBit rx d.bitPrimary.toNat)
    | .pair => pairCode d rx }

/-- The move of the row that a descriptor selects. -/
def Descriptor.selected (d : Descriptor) : Move :=
  match d.kind with
  | .pushbutton => pbMove (decodePbev (pbSelector d))
  | .pair => pairMove (decodePair (pairSelector d))

/-- The one event of `d` for a sample: the write of raw, and the move that is then selected. -/
def Descriptor.event (d : Descriptor) (rx : Sample) : Move :=
  { (d.sampled rx).selected with write := fun e => (d.sampled rx).selected.write { e with raw := (d.sampled rx).raw } }

/-- What the event leaves of the descriptor itself, but for an insertion. -/
def Descriptor.afterEvent (d : Descriptor) (rx : Sample) : Descriptor := (d.event rx).write d

theorem afterEvent_eq (d : Descriptor) (rx : Sample) :
    d.afterEvent rx = (d.sampled rx).selected.write (d.sampled rx) := rfl

theorem selected_keepsConfig (d : Descriptor) : d.selected.KeepsConfig := by
  rw [Descriptor.selected]
  split
  · exact pbMove_keepsConfig _
  · exact pairMove_keepsConfig _

theorem event_keepsConfig (d : Descriptor) (rx : Sample) : (d.event rx).KeepsConfig :=
  fun _ => selected_keepsConfig (d.sampled rx) _

theorem sampled_sound {d : Descriptor} (hs : d.Sound) (rx : Sample) : (d.sampled rx).Sound where
  closed := hs.closed
  opened := hs.opened
  opening := hs.opening
  closing := hs.closing
  pairCode := hs.pairCode
  pairState := hs.pairState
  level hk := by
    have hkind : d.kind = .pushbutton := hk
    simp only [Descriptor.sampled, hkind]
    cases sampleBit rx d.bitPrimary.toNat
    · exact .inl rfl
    · exact .inr rfl

theorem sampled_tracks (d : Descriptor) (rx : Sample) : (d.sampled rx).TracksSample rx := by
  cases hk : d.kind with
  | pushbutton => simp only [Descriptor.TracksSample, Descriptor.sampled, hk]
  | pair =>
    simp only [Descriptor.TracksSample, Descriptor.sampled, hk]
    rfl

theorem selected_suits {d : Descriptor} (hs : d.Sound) : d.selected.Suits d := by
  rw [Descriptor.selected]
  split
  · next hk => exact pbMove_suits hs hk
  · next hk => exact pairMove_suits hs hk

/-- The event of a sound descriptor, in terms of the descriptor before raw is written. -/
theorem event_suits {d : Descriptor} (hs : d.Sound) (rx : Sample) :
    (d.afterEvent rx).Sound ∧ (d.afterEvent rx).AgreesSettled ∧
    ((d.event rx).notifies = true ↔ (d.afterEvent rx).debounced ≠ d.debounced) ∧
    ((d.afterEvent rx).debounced ≠ d.debounced → (d.afterEvent rx).debounced = (d.afterEvent rx).raw) ∧
    (d.afterEvent rx).raw = (d.sampled rx).raw ∧ (d.afterEvent rx).next = d.next ∧
    ((d.event rx).starts = true → ¬ d.Timing ∧ (d.afterEvent rx).Timing) ∧
    ((d.event rx).starts = false → ((d.afterEvent rx).Timing ↔ d.Timing)) := by
  obtain ⟨hsound, hsettled, hcommits, hlevel, ⟨hraw, hnext⟩, hstarts, hstays⟩ := selected_suits (sampled_sound hs rx)
  exact ⟨hsound, hsettled, hcommits, fun hne => hlevel (hcommits.mpr hne), hraw, hnext, hstarts, hstays⟩

theorem afterEvent_config (d : Descriptor) (rx : Sample) : (d.afterEvent rx).config = d.config :=
  event_keepsConfig d rx d

end Sys2Proof.Machine
end

section
/-!
PROOFS. The dispatch of a compared cycle (42_change_detector.md R142 to R147): from a sound state each owner of a changed
bit gets its one event, no other descriptor is touched, and PEND is notified for exactly the commits.
-/

namespace Sys2Proof.Machine

open Sys2Proof

/-! ### NOTIFY for exactly the commits (R221) -/

theorem Move.result_debounced (m : Move) (head : Option Nat) (d : Descriptor) :
    (m.result head d).debounced = (m.write d).debounced := by
  rw [Move.result]
  split <;> rfl

namespace State.NotifiedExactly

theorem refl (s : State) : s.NotifiedExactly s := by
  intro c p
  refine ⟨.inl, fun hbit => hbit.elim id ?_⟩
  rintro ⟨h, d, e, hd, he, hne, -⟩
  exact absurd (congrArg Descriptor.debounced (Option.some.inj (he.symm.trans hd))) hne

/-- A last part of a cycle that commits nothing and leaves PEND alone. -/
theorem quiet {s t u : State} (hst : s.NotifiedExactly t) (hpend : u.pend = t.pend)
    (hdeb : u.descs.map Descriptor.debounced = t.descs.map Descriptor.debounced) : s.NotifiedExactly u := by
  intro c p
  have hword : u.pendOf c = t.pendOf c := by rw [State.pendOf, State.pendOf, hpend]
  have hsame (h : Nat) : u.descs[h]?.map Descriptor.debounced = t.descs[h]?.map Descriptor.debounced := by
    rw [← List.getElem?_map, ← List.getElem?_map, hdeb]
  rw [hword, hst c p]
  refine or_congr_right (exists_congr fun h => exists_congr fun d => ⟨?_, ?_⟩)
  · rintro ⟨e, hd, he, hne, hbit⟩
    obtain ⟨f, hf, hfe⟩ := Option.map_eq_some_iff.mp ((hsame h).trans (congrArg (Option.map _) he))
    exact ⟨f, hd, hf, hfe ▸ hne, hbit⟩
  · rintro ⟨f, hd, hf, hne, hbit⟩
    obtain ⟨e, he, hef⟩ := Option.map_eq_some_iff.mp ((hsame h).symm.trans (congrArg (Option.map _) hf))
    exact ⟨e, hd, he, hef ▸ hne, hbit⟩

theorem of_debounced {s t : State} (hpend : t.pend = s.pend)
    (hdeb : t.descs.map Descriptor.debounced = s.descs.map Descriptor.debounced) : s.NotifiedExactly t :=
  (refl s).quiet hpend hdeb

/-- Two parts of a cycle, where no descriptor commits in both. -/
theorem trans {s t u : State} (hst : s.NotifiedExactly t) (htu : t.NotifiedExactly u) (hc : t.configs = s.configs)
    (hc' : u.configs = t.configs)
    (hone : ∀ (h : Nat) (d e f : Descriptor), s.descs[h]? = some d → t.descs[h]? = some e → u.descs[h]? = some f →
      e.debounced ≠ d.debounced → f.debounced = e.debounced) : s.NotifiedExactly u := by
  intro c p
  rw [htu c p, hst c p, or_assoc]
  refine or_congr_right ⟨?_, ?_⟩
  · rintro (⟨h, d, e, hd, he, hne, hconsumer⟩ | ⟨h, e, f, he, hf, hne, hconsumer, hbit⟩)
    · obtain ⟨f, hf, -⟩ := getElem?_of_configs hc'.symm he
      exact ⟨h, d, f, hd, hf, by rwa [hone h d e f hd he hf hne], hconsumer⟩
    · obtain ⟨d, hd, hconfig⟩ := getElem?_of_configs hc he
      obtain ⟨hcd, hvd⟩ := consumer_of_config hconfig
      have hfirst : e.debounced = d.debounced := by
        by_contra hchanged
        exact hne (hone h d e f hd he hf hchanged)
      exact ⟨h, d, f, hd, hf, hfirst ▸ hne, hcd.trans hconsumer, by rwa [hvd]⟩
  · rintro ⟨h, d, f, hd, hf, hne, hconsumer, hbit⟩
    obtain ⟨e, he, hconfig⟩ := getElem?_of_configs hc.symm hd
    obtain ⟨hce, hve⟩ := consumer_of_config hconfig
    by_cases hfirst : e.debounced = d.debounced
    · exact .inr ⟨h, e, f, he, hf, hfirst ▸ hne, hce.trans hconsumer, by rwa [hve]⟩
    · exact .inl ⟨h, d, e, hd, he, hfirst, hconsumer, hbit⟩

/-- A move that notifies exactly where it commits. -/
theorem run {m : Move} {h : Nat} {s : State} {d : Descriptor} (hd : s.descs[h]? = some d)
    (hcommits : m.notifies = true ↔ (m.write d).debounced ≠ d.debounced) : s.NotifiedExactly (m.run h s) := by
  intro c p
  rw [Move.run_pendOf hd, hcommits, ← Move.result_debounced m s.head d]
  refine or_congr_right ⟨fun ⟨hne, hconsumer⟩ => ⟨h, d, _, hd, Move.run_self hd, hne, hconsumer⟩, ?_⟩
  rintro ⟨k, e, f, he, hf, hne, hconsumer⟩
  by_cases hk : h = k
  · subst hk
    rw [Move.run_self hd] at hf
    rw [hd] at he
    obtain rfl := Option.some.inj he
    obtain rfl := Option.some.inj hf
    exact ⟨hne, hconsumer⟩
  · rw [Move.run_other hd hk, he] at hf
    exact absurd (congrArg Descriptor.debounced (Option.some.inj hf)).symm hne

end State.NotifiedExactly

/-! ### The set (R37) -/

/-- A list is linked by the `next` of its own members. -/
theorem Linked.congr {descs descs' : List Descriptor} {start : Option Nat} {l : List Nat}
    (hl : Linked descs start l) (hnext : ∀ k ∈ l, ∀ d, descs[k]? = some d → ∃ e, descs'[k]? = some e ∧ e.next = d.next) :
    Linked descs' start l := by
  induction l generalizing start with
  | nil => exact hl
  | cons h rest ih =>
    obtain ⟨hstart, d, hd, hrest⟩ := hl
    obtain ⟨e, he, hen⟩ := hnext h List.mem_cons_self d hd
    refine ⟨hstart, e, he, ?_⟩
    rw [hen]
    exact ih hrest fun k hk => hnext k (List.mem_cons_of_mem h hk)

/-! ### The invariant that every part of a cycle keeps -/

/-- What of the running invariant speaks of D, REG and the set: R45 (1), R46 (c) to (g), R37. -/
structure State.DebounceInv (s : State) : Prop where
  registry : s.RegistryInv
  sound : ∀ (h : Nat) (d : Descriptor), s.descs[h]? = some d → d.Sound
  ads : ∃ l, s.IsAds l ∧ ∀ (h : Nat) (d : Descriptor), s.descs[h]? = some d → (h ∈ l ↔ d.Timing)
  unlinked : ∀ (h : Nat) (d : Descriptor), s.descs[h]? = some d → ¬ d.Timing → d.next = none

theorem State.RunningInv.debounce {s : State} (hs : s.RunningInv) : s.DebounceInv :=
  ⟨hs.registry, hs.sound, hs.ads, hs.unlinked⟩

theorem debounceInv_of_descs {s t : State} (hs : s.DebounceInv) (hreg : t.reg = s.reg) (hdescs : t.descs = s.descs)
    (hhead : t.head = s.head) : t.DebounceInv where
  registry := registryInv_of_descs hs.registry hreg hdescs
  sound := by rw [hdescs]; exact hs.sound
  ads := by
    simp only [State.IsAds, hdescs, hhead]
    exact hs.ads
  unlinked := by rw [hdescs]; exact hs.unlinked

theorem sound_withNext {d : Descriptor} (hs : d.Sound) (n : Option Nat) : Descriptor.Sound { d with next := n } :=
  ⟨hs.closed, hs.opened, hs.opening, hs.closing, hs.pairCode, hs.pairState, hs.level⟩

theorem Move.result_sound {m : Move} {d : Descriptor} (hs : (m.write d).Sound) (head : Option Nat) :
    (m.result head d).Sound := by
  rw [Move.result]
  split
  · exact sound_withNext hs head
  · exact hs

theorem Move.result_timing (m : Move) (head : Option Nat) (d : Descriptor) :
    (m.result head d).Timing ↔ (m.write d).Timing := by
  rw [Move.result]
  split <;> exact Iff.rfl

/-- What stands under a handle after a move of descriptor `h`. -/
theorem Move.run_cases {m : Move} {h k : Nat} {s : State} {d e : Descriptor} (hd : s.descs[h]? = some d)
    (he : (m.run h s).descs[k]? = some e) : k = h ∧ e = m.result s.head d ∨ h ≠ k ∧ s.descs[k]? = some e := by
  by_cases hk : h = k
  · subst hk
    rw [Move.run_self hd] at he
    exact .inl ⟨rfl, (Option.some.inj he).symm⟩
  · rw [Move.run_other hd hk] at he
    exact .inr ⟨hk, he⟩

section
variable {s : State} {h : Nat} {d : Descriptor}

/-- R211: an event that starts the timer puts its descriptor, which was no member, at the head of the set. -/
theorem event_ads (hs : s.DebounceInv) (hd : s.descs[h]? = some d) (rx : Sample) :
    ∃ l, ((d.event rx).run h s).IsAds l ∧
      ∀ (k : Nat) (e : Descriptor), ((d.event rx).run h s).descs[k]? = some e → (k ∈ l ↔ e.Timing) := by
  obtain ⟨l, ⟨hlinked, hnodup⟩, hmem⟩ := hs.ads
  obtain ⟨-, -, -, -, -, hnext, hstarts, hstays⟩ := event_suits (hs.sound h d hd) rx
  have hself := Move.run_self (m := d.event rx) hd
  have htiming := Move.result_timing (d.event rx) s.head d
  have hhead := Move.run_head (m := d.event rx) hd
  cases hstart : (d.event rx).starts with
  | false =>
    refine ⟨l, ⟨?_, hnodup⟩, fun k e he => ?_⟩
    · rw [hhead, hstart]
      refine hlinked.congr fun k _ e he => ?_
      by_cases hk : h = k
      · subst hk
        obtain rfl := Option.some.inj (hd.symm.trans he)
        refine ⟨_, hself, ?_⟩
        rw [Move.result, hstart]
        exact hnext
      · exact ⟨e, (Move.run_other hd hk).trans he, rfl⟩
    · rcases Move.run_cases hd he with ⟨rfl, rfl⟩ | ⟨-, he⟩
      · rw [htiming, hmem k d hd]
        exact (hstays hstart).symm
      · exact hmem k e he
  | true =>
    have hout : h ∉ l := fun hin => (hstarts hstart).1 ((hmem h d hd).mp hin)
    refine ⟨h :: l, ⟨⟨?_, _, hself, ?_⟩, List.nodup_cons.mpr ⟨hout, hnodup⟩⟩, fun k e he => ?_⟩
    · rw [hhead, hstart, if_pos rfl]
    · rw [Move.result, hstart]
      refine hlinked.congr fun k hk e he => ⟨e, (Move.run_other hd ?_).trans he, rfl⟩
      rintro rfl
      exact hout hk
    · rcases Move.run_cases hd he with ⟨rfl, rfl⟩ | ⟨hk, he⟩
      · rw [htiming]
        exact iff_of_true List.mem_cons_self (hstarts hstart).2
      · rw [List.mem_cons, or_iff_right (Ne.symm hk)]
        exact hmem k e he

theorem event_debounceInv (hs : s.DebounceInv) (hd : s.descs[h]? = some d) (rx : Sample) :
    ((d.event rx).run h s).DebounceInv := by
  obtain ⟨hsound, -, -, -, -, hnext, hstarts, hstays⟩ := event_suits (hs.sound h d hd) rx
  have hreg := reg_of_apartFromDebounce (Move.run_apartFromDebounce (m := d.event rx) hd)
  refine ⟨registryInv_of_configs hreg (Move.run_configs (event_keepsConfig d rx)) hs.registry, fun k e he => ?_,
    event_ads hs hd rx, fun k e he hnot => ?_⟩
  · rcases Move.run_cases hd he with ⟨-, rfl⟩ | ⟨-, he⟩
    · exact Move.result_sound hsound s.head
    · exact hs.sound k e he
  · rcases Move.run_cases hd he with ⟨rfl, rfl⟩ | ⟨-, he⟩
    · rw [Move.result_timing] at hnot
      have hstart : (d.event rx).starts = false := Bool.eq_false_iff.mpr fun hst => hnot (hstarts hst).2
      rw [Move.result, hstart]
      exact hnext.trans (hs.unlinked k d hd fun ht => hnot ((hstays hstart).mpr ht))
    · exact hs.unlinked k e he hnot

end

/-! ### One pass of the loop (R142 to R146) -/

/-- The bits that a pass clears for a descriptor (R145, R146). -/
def Descriptor.positions (d : Descriptor) : Word :=
  match d.kind with
  | .pushbutton => bitMask d.bitPrimary.toNat
  | .pair => bitMask d.bitPrimary.toNat ||| bitMask d.bitSecondary.toNat

theorem getLsbD_positions (d : Descriptor) (p : Nat) : d.positions.getLsbD p = true ↔ d.Owns p := by
  have hprimary := d.bitPrimary.isLt
  have hsecondary := d.bitSecondary.isLt
  cases hk : d.kind with
  | pushbutton =>
    simp only [Descriptor.positions, Descriptor.Owns, hk, getLsbD_bitMask, decide_eq_true_eq]
    simp only [reduceCtorEq, false_and, or_false]
    omega
  | pair =>
    simp only [Descriptor.positions, Descriptor.Owns, hk, getLsbD_bitMask, BitVec.getLsbD_or, Bool.or_eq_true,
      decide_eq_true_eq, true_and]
    omega

/-- A move after a write that is no configuration is one move of both writes. -/
theorem Move.run_modDesc (m : Move) (h : Nat) (s : State) (f : Descriptor → Descriptor)
    (hf : ∀ d, (f d).consumer = d.consumer ∧ (f d).notifyValue = d.notifyValue) :
    m.run h (s.modDesc h f) = Move.run { m with write := fun e => m.write (f e) } h s := by
  have hwrites (t : State) : (t.modDesc h f).modDesc h m.write = t.modDesc h fun e => m.write (f e) := modDesc_modDesc ..
  cases hn : m.notifies <;> simp only [Move.run, hn, if_true, Bool.false_eq_true, if_false, notify_modDesc h s f hf, hwrites]

theorem pbEvent_eq_event {s : State} {h : Nat} {d : Descriptor} (rx : Sample) (hd : s.descs[h]? = some d)
    (hk : d.kind = .pushbutton) :
    pbEvent h (sampleBit rx d.bitPrimary.toNat) s = .ok ((d.event rx).run h s) := by
  have hraw : (d.sampled rx).raw = levelCode (sampleBit rx d.bitPrimary.toNat) := by
    simp only [Descriptor.sampled, hk]
  have hselected : (d.sampled rx).selected = pbMove (decodePbev (pbSelector (d.sampled rx))) := by
    simp only [Descriptor.selected, show (d.sampled rx).kind = .pushbutton from hk]
  rw [pbEvent_some hd, runPb_eq_move, ← hraw, Descriptor.event, hselected]
  exact congrArg Except.ok (Move.run_modDesc _ h s (fun e => { e with raw := (d.sampled rx).raw }) fun _ => ⟨rfl, rfl⟩)

theorem pairEvent_eq_event {s : State} {h : Nat} {d : Descriptor} (rx : Sample) (hd : s.descs[h]? = some d)
    (hk : d.kind = .pair) : pairEvent h rx s = .ok ((d.event rx).run h s) := by
  have hraw : (d.sampled rx).raw = pairCode d rx := by
    simp only [Descriptor.sampled, hk]
  have hselected : (d.sampled rx).selected = pairMove (decodePair (pairSelector (d.sampled rx))) := by
    simp only [Descriptor.selected, show (d.sampled rx).kind = .pair from hk]
  rw [pairEvent_some hd, runPair_eq_move, ← hraw, Descriptor.event, hselected]
  exact congrArg Except.ok (Move.run_modDesc _ h s (fun e => { e with raw := (d.sampled rx).raw }) fun _ => ⟨rfl, rfl⟩)

/-- A pass at an owned slot is the owner's one event, its positions cleared. -/
theorem runDisp_owned {s : State} {pos h : Nat} {d : Descriptor} (hslot : s.slot pos = some h)
    (hd : s.descs[h]? = some d) (howns : d.Owns pos) :
    runDisp (decodeDisp (dispSelector s pos)) pos s =
      .ok ((d.event s.scratch.rx).run h (clearWork d.positions s)) := by
  cases hk : d.kind with
  | pushbutton =>
    obtain rfl : pos = d.bitPrimary.toNat := howns.elim id fun hpair => nomatch hk.symm.trans hpair.1
    have hpositions : d.positions = bitMask d.bitPrimary.toNat := by simp only [Descriptor.positions, hk]
    rw [dispRow_of_pushbutton hslot hd hk, hpositions]
    exact runDispPb_ok.mpr ⟨h, hslot, pbEvent_eq_event s.scratch.rx (s := clearWork _ s) hd hk⟩
  | pair =>
    have hpositions : d.positions = bitMask d.bitPrimary.toNat ||| bitMask d.bitSecondary.toNat := by
      simp only [Descriptor.positions, hk]
    rw [dispRow_of_pair hslot hd hk, hpositions]
    exact runDispPair_ok.mpr ⟨h, d, hslot, hd, pairEvent_eq_event s.scratch.rx (s := clearWork _ s) hd hk⟩

/-- What a pass has done (R142): it skipped a bit nobody owns, or gave the owner its event. -/
theorem dispatchAt_cases {s t : State} {pos : Nat} (hs : s.RegistryInv) (ht : dispatchAt pos s = .ok t) :
    (s.slot pos = none ∧ t = clearWork (bitMask pos) s) ∨ ∃ (h : Nat) (d : Descriptor), s.descs[h]? = some d ∧
      d.Owns pos ∧ t = (d.event s.scratch.rx).run h (clearWork d.positions s) := by
  obtain ⟨-, hrun⟩ := dispatchAt_ok.mp ht
  cases hslot : s.slot pos with
  | none =>
    rw [dispRow_of_empty hslot] at hrun
    cases hrun
    exact .inl ⟨rfl, rfl⟩
  | some h =>
    obtain ⟨d, hd, howns⟩ := (hs.owner pos h).mp hslot
    rw [runDisp_owned hslot hd howns] at hrun
    cases hrun
    exact .inr ⟨h, d, hd, howns, rfl⟩

/-! ### The whole loop -/

/-- What a dispatch of the working copy of `s` leaves in `t`. -/
structure State.Dispatched (s t : State) (rx : Sample) : Prop where
  inv : t.DebounceInv
  changed : ∀ (h : Nat) (d : Descriptor), s.descs[h]? = some d → (∃ p, d.Owns p ∧ s.scratch.work.getLsbD p = true) →
    ∃ e, t.descs[h]? = some e ∧ e.apartFromLink = (d.afterEvent rx).apartFromLink
  unchanged : ∀ (h : Nat) (d : Descriptor), s.descs[h]? = some d →
    (∀ p, d.Owns p → s.scratch.work.getLsbD p = false) → t.descs[h]? = some d
  notified : s.NotifiedExactly t

/-- A loop with nothing left to do. -/
theorem dispatched_refl {s : State} (hs : s.DebounceInv) (rx : Sample) (hzero : s.scratch.work = 0#32) :
    s.Dispatched s rx where
  inv := hs
  changed h d hd := by
    rintro ⟨p, -, hbit⟩
    rw [hzero, BitVec.getLsbD_zero] at hbit
    cases hbit
  unchanged h d hd _ := hd
  notified := .refl s

/-- A bit outside the cleared mask stands as it was. -/
theorem getLsbD_cleared {x mask : Word} {p : Nat} (hp : mask.getLsbD p = false) :
    (x &&& ~~~mask).getLsbD p = x.getLsbD p := by
  rw [BitVec.getLsbD_and, BitVec.getLsbD_not, hp]
  cases hx : x.getLsbD p with
  | false => rfl
  | true => simp [BitVec.lt_of_getLsbD hx]

/-- A first pass that skipped a bit nobody owns. -/
theorem dispatched_skip {s t : State} {pos : Nat} {rx : Sample} (hs : s.DebounceInv) (hslot : s.slot pos = none)
    (ht : (clearWork (bitMask pos) s).Dispatched t rx) : s.Dispatched t rx := by
  have hsame {h : Nat} {d : Descriptor} (hd : s.descs[h]? = some d) {p : Nat} (hp : d.Owns p) :
      (clearWork (bitMask pos) s).scratch.work.getLsbD p = s.scratch.work.getLsbD p := by
    refine getLsbD_cleared (Bool.eq_false_iff.mpr fun hbit => ?_)
    obtain ⟨-, rfl⟩ : p < 32 ∧ p = pos := by simpa using hbit
    rw [(hs.registry.owner p h).mpr ⟨d, hd, hp⟩] at hslot
    cases hslot
  refine ⟨ht.inv, fun h d hd ⟨p, hp, hbit⟩ => ?_, fun h d hd hnone => ?_, ht.notified⟩
  · exact ht.changed h d hd ⟨p, hp, by rwa [hsame hd hp]⟩
  · exact ht.unchanged h d hd fun p hp => by rw [hsame hd hp, hnone p hp]

/-- A first pass that gave descriptor `h` its event: the bits of every other owner stand, and `h` has none left. -/
theorem dispatched_event {s t : State} {pos h : Nat} {d : Descriptor} {rx : Sample} (hs : s.DebounceInv)
    (hd : s.descs[h]? = some d) (hbit : s.scratch.work.getLsbD pos = true) (howns : d.Owns pos)
    (hconfigs : t.configs = s.configs)
    (ht : ((d.event rx).run h (clearWork d.positions s)).Dispatched t rx) : s.Dispatched t rx := by
  have hcleared : (clearWork d.positions s).descs[h]? = some d := hd
  have hself := Move.run_self (m := d.event rx) hcleared
  have hwork : ((d.event rx).run h (clearWork d.positions s)).scratch.work = s.scratch.work &&& ~~~d.positions := by
    rw [Move.run_scratch hcleared]
    rfl
  have hconfig : ((d.event rx).result s.head d).config = d.config := by
    rw [Move.result]
    split
    · exact afterEvent_config d rx
    · exact afterEvent_config d rx
  have hlast : t.descs[h]? = some ((d.event rx).result s.head d) := by
    refine ht.unchanged h _ hself fun p hp => ?_
    have hmask : d.positions.getLsbD p = true := (getLsbD_positions d p).mpr (owns_of_config hconfig.symm hp)
    rw [hwork, BitVec.getLsbD_and, BitVec.getLsbD_not, hmask, Bool.not_true, Bool.and_false, Bool.and_false]
  have hother {k : Nat} {e : Descriptor} (hk : h ≠ k) (he : s.descs[k]? = some e) :
      ((d.event rx).run h (clearWork d.positions s)).descs[k]? = some e ∧ ∀ p, e.Owns p →
        ((d.event rx).run h (clearWork d.positions s)).scratch.work.getLsbD p = s.scratch.work.getLsbD p := by
    refine ⟨(Move.run_other hcleared hk).trans he, fun p hp => ?_⟩
    rw [hwork]
    refine getLsbD_cleared (Bool.eq_false_iff.mpr fun hmask => hk ?_)
    exact eq_of_owns hs.registry hd he ((getLsbD_positions d p).mp hmask) hp
  refine ⟨ht.inv, fun k e he ⟨p, hp, hset⟩ => ?_, fun k e he hnone => ?_, ?_⟩
  · by_cases hk : h = k
    · subst hk
      obtain rfl := Option.some.inj (hd.symm.trans he)
      exact ⟨_, hlast, Move.result_apartFromLink s.head⟩
    · obtain ⟨he', hsame⟩ := hother hk he
      exact ht.changed k e he' ⟨p, hp, by rwa [hsame p hp]⟩
  · by_cases hk : h = k
    · subst hk
      obtain rfl := Option.some.inj (hd.symm.trans he)
      rw [hnone pos howns] at hbit
      cases hbit
    · obtain ⟨he', hsame⟩ := hother hk he
      exact ht.unchanged k e he' fun p hp => by rw [hsame p hp, hnone p hp]
  · have hcommits := (event_suits (hs.sound h d hd) rx).2.2.1
    have hclear : s.NotifiedExactly (clearWork d.positions s) := .of_debounced rfl rfl
    have hevent : s.NotifiedExactly ((d.event rx).run h (clearWork d.positions s)) :=
      .run (s := clearWork d.positions s) hcleared hcommits
    have hkept : ((d.event rx).run h (clearWork d.positions s)).configs = s.configs :=
      Move.run_configs (event_keepsConfig d rx)
    refine hevent.trans ht.notified hkept (hconfigs.trans hkept.symm) fun k e f g he hf hg hne => ?_
    by_cases hk : h = k
    · subst hk
      rw [Option.some.inj (hg.symm.trans hlast), Option.some.inj (hf.symm.trans hself)]
      rfl
    · rw [(hother hk he).1] at hf
      exact absurd (congrArg Descriptor.debounced (Option.some.inj hf)).symm hne

/-- R147 (1): the loop gives every owner of a set bit exactly its one event. -/
theorem dispatchLoop_dispatched {n : Nat} {dir : ScanDir} {s t : State} (hs : s.DebounceInv)
    (ht : dispatchLoop n dir s = .ok t) : s.Dispatched t s.scratch.rx := by
  fun_induction dispatchLoop n dir s with
  | case1 dir s hscan | case3 n dir s hscan =>
    cases ht
    exact dispatched_refl hs _ (eq_zero_of_scan_none hscan)
  | case2 | case4 => cases ht
  | case5 n dir s pos hscan u hu ih =>
    have hconfigs : t.configs = s.configs := (dispatchLoop_configs ht).trans (dispatchAt_configs hu)
    rcases dispatchAt_cases hs.registry hu with ⟨hslot, rfl⟩ | ⟨h, d, hd, howns, rfl⟩
    · exact dispatched_skip hs hslot (ih (debounceInv_of_descs hs rfl rfl rfl) ht)
    · have hcleared : (clearWork d.positions s).descs[h]? = some d := hd
      have hclear : (clearWork d.positions s).DebounceInv := debounceInv_of_descs hs rfl rfl rfl
      have hrest := ih (event_debounceInv hclear hcleared s.scratch.rx) ht
      rw [Move.run_scratch hcleared] at hrest
      exact dispatched_event hs hd (scan_sets hscan) howns hconfigs hrest

end Sys2Proof.Machine
end

section
/-!
PROOFS. The debounce tick (46_active_set.md R212 to R216): the walk over the set decrements every member or settles and
unlinks it, and touches no other descriptor but for the link of the node before.
-/

namespace Sys2Proof.Machine

open Sys2Proof

/-! ### One member of the set -/

/-- A member whose countdown has come to an end: settled to the level of its raw, and unlinked (R214). -/
def Descriptor.expired (d : Descriptor) : Descriptor :=
  { d with
    countdown := 0#16, machineState := if d.raw.getLsbD 0 then .opened else .closed
    debounced := if d.raw.getLsbD 0 then 1#2 else 0#2, next := none }

namespace Descriptor.Ticked

variable {a b : Descriptor}

theorem of_still (hstill : ¬ a.Timing) (hb : b.apartFromLink = a.apartFromLink) : a.Ticked b :=
  ⟨fun _ => hb, fun ht => absurd ht hstill, fun ht => absurd ht hstill⟩

theorem of_held (ht : a.Timing) (hcount : a.countdown ≠ 1#16)
    (hb : b.apartFromLink = { a with countdown := a.countdown - 1#16, next := none }) : a.Ticked b :=
  ⟨fun hstill => absurd ht hstill, fun _ _ => hb, fun _ hc => absurd hc hcount⟩

theorem of_expired (ht : a.Timing) (hcount : a.countdown = 1#16) : a.Ticked a.expired :=
  ⟨fun hstill => absurd ht hstill, fun _ hc => absurd hcount hc, fun _ _ => rfl⟩

end Descriptor.Ticked

section
variable {s : State} {h : Nat} {d : Descriptor}

/-- R181 to R189 for a sound member: whatever the row, it goes to the settled state of its level, commits that level, and
notifies exactly if it was not the committed one. -/
theorem settleMove_of_sound {row : SettleRow} (hs : d.Sound) (ht : d.Timing)
    (hrow : decodeSetl (settleSelector d) = some row) :
    (settleMove row).write d = { d with
      machineState := if d.raw.getLsbD 0 then .opened else .closed
      debounced := if d.raw.getLsbD 0 then 1#2 else 0#2 } ∧
    ((settleMove row).notifies = true ↔ (if d.raw.getLsbD 0 then 1#2 else 0#2) ≠ d.debounced) := by
  obtain ⟨hk, hm | hm⟩ := ht
  · obtain ⟨-, -, -, hdeb⟩ := hs.opening hk hm
    rw [settleRow_of_opening hm] at hrow
    obtain rfl := Option.some.inj hrow
    cases hr : d.raw.getLsbD 0 <;> cases hmode : d.mode <;> simp [settleMove, hdeb, hmode]
  · obtain ⟨-, -, -, hdeb⟩ := hs.closing hk hm
    rw [settleRow_of_closing hm] at hrow
    obtain rfl := Option.some.inj hrow
    cases hr : d.raw.getLsbD 0 <;> cases hmode : d.mode <;> simp [settleMove, hdeb, hmode]

/-- What TICK.EXPIRE leaves of the member `h`, whose descriptor is `d`, and of the node before it (R214). -/
structure State.Expired (s t : State) (h : Nat) (d : Descriptor) : Prop where
  self     : t.descs[h]? = some d.expired
  previous : ∀ p, s.scratch.prevNode = some p → t.descs[p]? = s.descs[p]?.map fun e => { e with next := d.next }
  others   : ∀ k, k ≠ h → s.scratch.prevNode ≠ some k → t.descs[k]? = s.descs[k]?
  head     : t.head = if s.scratch.prevNode = none then d.next else s.head
  scratch  : t.scratch = s.scratch
  notified : s.NotifiedExactly t

theorem modDesc_debounced (s : State) (h : Nat) {f : Descriptor → Descriptor} (hf : ∀ d, (f d).debounced = d.debounced) :
    (s.modDesc h f).descs.map Descriptor.debounced = s.descs.map Descriptor.debounced := by
  refine List.ext_getElem? fun k => ?_
  simp only [List.getElem?_map, modDesc_getElem?]
  split
  · rw [Option.map_map]
    exact congrArg (fun g => s.descs[k]?.map g) (funext hf)
  · rfl

theorem setNext_debounced (h : Nat) (n : Option Nat) (s : State) :
    (setNext h n s).descs.map Descriptor.debounced = s.descs.map Descriptor.debounced :=
  modDesc_debounced s h fun _ => rfl

theorem adsUnlink_debounced (cur : Nat) (p nxt : Option Nat) (s : State) :
    (adsUnlink cur p nxt s).descs.map Descriptor.debounced = s.descs.map Descriptor.debounced := by
  cases p with
  | none => exact setNext_debounced cur none { s with head := nxt }
  | some q => exact (setNext_debounced cur none (setNext q nxt s)).trans (setNext_debounced q nxt s)

/-- The unlinking of a node that is not its own predecessor. -/
theorem adsUnlink_expired {u : State} {e : Descriptor} {p nxt : Option Nat} (hp : p ≠ some h)
    (he : u.descs[h]? = some e) :
    (adsUnlink h p nxt u).descs[h]? = some { e with next := none } ∧
    (∀ q, p = some q → (adsUnlink h p nxt u).descs[q]? = u.descs[q]?.map fun f => { f with next := nxt }) ∧
    (∀ k, k ≠ h → p ≠ some k → (adsUnlink h p nxt u).descs[k]? = u.descs[k]?) ∧
    (adsUnlink h p nxt u).head = (if p = none then nxt else u.head) ∧ (adsUnlink h p nxt u).scratch = u.scratch := by
  cases p with
  | none =>
    refine ⟨modDesc_same (s := { u with head := nxt }) _ he, fun q hq => (nomatch hq), fun k hk _ => ?_, rfl, rfl⟩
    exact modDesc_other (s := { u with head := nxt }) _ hk.symm
  | some q =>
    have hqh : q ≠ h := fun heq => hp (congrArg some heq)
    refine ⟨?_, fun q' hq => ?_, fun k hk hkq => ?_, rfl, rfl⟩
    · exact modDesc_same (s := setNext q nxt u) _ ((modDesc_other _ hqh).trans he)
    · obtain rfl := Option.some.inj hq
      refine (modDesc_other (s := setNext q nxt u) _ hqh.symm).trans ?_
      rw [setNext_eq, modDesc_getElem?, if_pos rfl]
    · have hqk : q ≠ k := fun heq => hkq (congrArg some heq)
      exact (modDesc_other (s := setNext q nxt u) _ hk.symm).trans (modDesc_other _ hqk)

/-- The countdown cleared and the row's settle, as one move. -/
def expireMove (row : SettleRow) : Move :=
  { settleMove row with write := fun e => (settleMove row).write { e with countdown := 0#16 } }

theorem settleMove_run_cleared (row : SettleRow) (h : Nat) (s : State) :
    (settleMove row).run h (s.modDesc h fun e => { e with countdown := 0#16 }) = (expireMove row).run h s :=
  Move.run_modDesc _ h s _ fun _ => ⟨rfl, rfl⟩

theorem expireMove_write (row : SettleRow) (d : Descriptor) :
    (expireMove row).write d = { (settleMove row).write d with countdown := 0#16 } := by cases row <;> rfl

theorem expireMove_result (row : SettleRow) (head : Option Nat) (d : Descriptor) :
    (expireMove row).result head d = (expireMove row).write d := by cases row <;> rfl

/-- R214: TICK.EXPIRE of a sound member. -/
theorem tickExpire_expired (hd : s.descs[h]? = some d) (hs : d.Sound) (ht : d.Timing)
    (hprev : s.scratch.prevNode ≠ some h) : ∃ t, tickExpire h s = .ok t ∧ s.Expired t h d := by
  obtain ⟨row, hrow⟩ := settleRow_of_timer ht.2
  obtain ⟨hwrite, hnotifies⟩ := settleMove_of_sound hs ht hrow
  have hself : ((expireMove row).run h s).descs[h]? = some { d.expired with next := d.next } := by
    rw [Move.run_self hd, expireMove_result, expireMove_write, hwrite]
    rfl
  have hhead : ((expireMove row).run h s).head = s.head := by
    rw [Move.run_head hd]
    cases row <;> rfl
  have hsettled : s.NotifiedExactly ((expireMove row).run h s) := by
    refine .run hd ?_
    rw [expireMove_write, hwrite]
    exact hnotifies
  obtain ⟨hlast, hbefore, hothers, hnewhead, hscratch⟩ := adsUnlink_expired (nxt := d.next) hprev hself
  refine ⟨_, tickExpire_of_row hd hrow, ?_⟩
  rw [settleMove_run_cleared]
  refine ⟨hlast, fun p hp => ?_, fun k hk hkp => ?_, ?_, hscratch.trans (Move.run_scratch hd), ?_⟩
  · have hph : h ≠ p := fun heq => hprev (hp.trans (congrArg some heq.symm))
    rw [hbefore p hp, Move.run_other hd hph]
  · exact (hothers k hk hkp).trans (Move.run_other hd hk.symm)
  · rw [hnewhead, hhead]
  · exact hsettled.quiet (adsUnlink_pend ..) (adsUnlink_debounced ..)

end

/-! ### The set as a list (R37) -/

theorem Linked.start_eq {descs : List Descriptor} {start : Option Nat} {l : List Nat} (hl : Linked descs start l) :
    start = l.head? := by
  cases l with
  | nil => exact hl
  | cons h rest => exact hl.1

theorem Linked.exists_of_mem {descs : List Descriptor} {start : Option Nat} {l : List Nat} (hl : Linked descs start l)
    {h : Nat} (hh : h ∈ l) : ∃ d, descs[h]? = some d := by
  induction l generalizing start with
  | nil => cases hh
  | cons k rest ih =>
    obtain ⟨-, d, hd, hrest⟩ := hl
    rcases List.mem_cons.mp hh with rfl | hh
    · exact ⟨d, hd⟩
    · exact ih hrest hh

/-- The part of the set after the nodes `pre`. -/
theorem Linked.drop {descs : List Descriptor} {start : Option Nat} {pre rest : List Nat}
    (hl : Linked descs start (pre ++ rest)) : Linked descs rest.head? rest := by
  induction pre generalizing start with
  | nil => exact hl.start_eq ▸ hl
  | cons k pre ih =>
    obtain ⟨-, d, -, hrest⟩ := hl
    exact ih hrest

/-- The links from HEAD determine the set. -/
theorem Linked.unique {descs : List Descriptor} {start : Option Nat} {l l' : List Nat} (hl : Linked descs start l)
    (hl' : Linked descs start l') : l = l' := by
  induction l generalizing start l' with
  | nil =>
    have hstart := hl'.start_eq
    rw [show start = none from hl] at hstart
    exact (List.head?_eq_none_iff.mp hstart.symm).symm
  | cons h rest ih =>
    obtain ⟨rfl, d, hd, hrest⟩ := hl
    cases l' with
    | nil => cases hl'
    | cons k rest' =>
      obtain ⟨heq, e, he, hrest'⟩ := hl'
      obtain rfl := Option.some.inj heq
      obtain rfl := Option.some.inj (hd.symm.trans he)
      rw [ih hrest hrest']

/-- Linking the node before `cur` to the node after it takes `cur` out of the set. -/
theorem Linked.unlink {descs descs' : List Descriptor} {start : Option Nat} {pre rest : List Nat} {p cur : Nat}
    {d e' : Descriptor} (hl : Linked descs start (pre ++ p :: cur :: rest)) (hd : descs[cur]? = some d)
    (he' : descs'[p]? = some e') (hnext : e'.next = d.next)
    (hothers : ∀ k ∈ pre ++ rest, descs'[k]? = descs[k]?) : Linked descs' start (pre ++ p :: rest) := by
  induction pre generalizing start with
  | nil =>
    obtain ⟨hstart, f, hf, -, g, hg, hrest⟩ := hl
    obtain rfl := Option.some.inj (hd.symm.trans hg)
    refine ⟨hstart, e', he', ?_⟩
    rw [hnext]
    exact hrest.congr fun k hk f hf => ⟨f, (hothers k hk).trans hf, rfl⟩
  | cons k pre ih =>
    obtain ⟨hstart, f, hf, hrest⟩ := hl
    exact ⟨hstart, f, (hothers k List.mem_cons_self).trans hf,
      ih hrest fun j hj => hothers j (List.mem_cons_of_mem k hj)⟩

/-- A set without repetition of existing descriptors has at most NDESC members (R216). -/
theorem length_le_ndesc {s : State} {l : List Nat} (hl : s.IsAds l) : l.length ≤ s.ndesc := by
  have hsub : l ⊆ List.range s.ndesc := fun h hh => by
    obtain ⟨d, hd⟩ := hl.1.exists_of_mem hh
    exact List.mem_range.mpr (List.getElem?_eq_some_iff.mp hd).1
  simpa using (List.subperm_of_subset hl.2 hsub).length_le

/-! ### The walk (R212) -/

/-- Whether the tick leaves `h` in the set: its countdown does not reach zero. -/
def State.stays (s : State) (h : Nat) : Bool := s.descs[h]?.map Descriptor.countdown != some 1#16

theorem stays_eq {s : State} {h : Nat} {d : Descriptor} (hd : s.descs[h]? = some d) :
    s.stays h = decide (d.countdown ≠ 1#16) := by
  rw [State.stays, hd, Bool.eq_iff_iff]
  simp

/-- What the rest of a walk leaves in `t`: begun in `s` after the nodes `pre`, all held, with the nodes `rest` to come. -/
structure State.Walked (s t : State) (pre rest : List Nat) : Prop where
  linked : Linked t.descs t.head (pre ++ rest.filter s.stays)
  untouched : ∀ k, k ∉ pre → k ∉ rest → t.descs[k]? = s.descs[k]?
  earlier : ∀ k ∈ pre, t.descs[k]?.map Descriptor.apartFromLink = s.descs[k]?.map Descriptor.apartFromLink
  ticked : ∀ k ∈ rest, ∀ d, s.descs[k]? = some d → ∃ e, t.descs[k]? = some e ∧ d.Ticked e
  notified : s.NotifiedExactly t

section
variable {s t : State} {pre rest : List Nat} {cur : Nat} {d : Descriptor}

/-- The walk ends after the last node. -/
theorem walked_nil (hl : Linked s.descs s.head pre) : s.Walked s pre [] where
  linked := by simpa using hl
  untouched _ _ _ := rfl
  earlier _ _ := rfl
  ticked _ hk := nomatch hk
  notified := .refl s

/-- Names for what it is that the walked list has no repetition. -/
theorem nodup_split (hnodup : (pre ++ cur :: rest).Nodup) :
    cur ∉ pre ∧ cur ∉ rest ∧ (pre ++ rest).Nodup ∧ ∀ k ∈ pre, k ∉ rest := by
  obtain ⟨hpre, hrest, hdisjoint⟩ := List.nodup_append.mp hnodup
  obtain ⟨hcur, hrest⟩ := List.nodup_cons.mp hrest
  exact ⟨fun hmem => hdisjoint cur hmem cur List.mem_cons_self rfl, hcur,
    List.nodup_append.mpr ⟨hpre, hrest, fun a ha b hb => hdisjoint a ha b (List.mem_cons_of_mem cur hb)⟩,
    fun k hk hkr => hdisjoint k hk k (List.mem_cons_of_mem cur hkr) rfl⟩

/-- R213: a node held, then the rest of the walk. -/
theorem walked_hold (hd : s.descs[cur]? = some d) (ht : d.Timing) (hcount : d.countdown ≠ 1#16)
    (hnodup : (pre ++ cur :: rest).Nodup) (hconfigs : t.configs = s.configs)
    (hw : (setPrevNode (some cur) (decrement cur s)).Walked t (pre ++ [cur]) rest) : s.Walked t pre (cur :: rest) := by
  obtain ⟨hcurpre, hcurrest, -, -⟩ := nodup_split hnodup
  have hself : (decrement cur s).descs[cur]? = some { d with countdown := d.countdown - 1#16 } := modDesc_same _ hd
  have hother {k : Nat} (hk : k ≠ cur) : (decrement cur s).descs[k]? = s.descs[k]? := modDesc_other _ hk.symm
  have hrest {k : Nat} (hk : k ∈ rest) : k ≠ cur := fun heq => hcurrest (heq ▸ hk)
  refine ⟨?_, fun k hkp hkr => ?_, fun k hk => ?_, fun k hk e he => ?_, ?_⟩
  · have hfilter : rest.filter (setPrevNode (some cur) (decrement cur s)).stays = rest.filter s.stays :=
      List.filter_congr fun k hk => by
        rw [State.stays, setPrevNode_descs, hother (hrest hk), State.stays]
    have hstays : s.stays cur = true := by rw [stays_eq hd]; exact decide_eq_true hcount
    have hlinked := hw.linked
    rwa [hfilter, List.append_assoc, List.singleton_append, ← List.filter_cons_of_pos hstays] at hlinked
  · obtain ⟨hkcur, hkrest⟩ := not_or.mp (mt List.mem_cons.mpr hkr)
    exact (hw.untouched k (by simp [hkp, hkcur]) hkrest).trans (hother hkcur)
  · have hkcur : k ≠ cur := fun heq => hcurpre (heq ▸ hk)
    exact (hw.earlier k (List.mem_append_left _ hk)).trans (congrArg _ (hother hkcur))
  · rcases List.mem_cons.mp hk with rfl | hk
    · obtain rfl := Option.some.inj (hd.symm.trans he)
      have hheld := (hw.earlier k (by simp)).trans (congrArg _ hself)
      obtain ⟨b, hb, hba⟩ := Option.map_eq_some_iff.mp hheld
      exact ⟨b, hb, .of_held ht hcount hba⟩
    · exact hw.ticked k hk e ((hother (hrest hk)).trans he)
  · have hquiet : s.NotifiedExactly (setPrevNode (some cur) (decrement cur s)) :=
      .of_debounced rfl (modDesc_debounced s cur fun _ => rfl)
    have hkept : (setPrevNode (some cur) (decrement cur s)).configs = s.configs := decrement_configs cur s
    refine hquiet.trans hw.notified hkept (hconfigs.trans hkept.symm) fun k e f g he hf _ hne => absurd ?_ hne
    have hsame : f.debounced = e.debounced := by
      have hmap := congrArg (·[k]?) (modDesc_debounced s cur (f := fun d => { d with countdown := d.countdown - 1#16 })
        fun _ => rfl)
      have hf' : (decrement cur s).descs[k]? = some f := hf
      simp only [List.getElem?_map, he] at hmap
      rw [decrement_eq] at hf'
      rw [hf'] at hmap
      exact Option.some.inj hmap
    exact hsame

/-- After a node has been unlinked the set is the others. -/
theorem linked_of_expired {u : State} (hl : Linked s.descs s.head (pre ++ cur :: rest))
    (hnodup : (pre ++ cur :: rest).Nodup) (hprev : s.scratch.prevNode = pre.getLast?) (hd : s.descs[cur]? = some d)
    (hu : s.Expired u cur d) : Linked u.descs u.head (pre ++ rest) := by
  obtain ⟨hcurpre, hcurrest, -, hdisjoint⟩ := nodup_split hnodup
  rcases List.eq_nil_or_concat' pre with rfl | ⟨before, p, rfl⟩
  · have hnone : s.scratch.prevNode = none := hprev
    obtain ⟨-, e, he, hrest⟩ := hl
    obtain rfl := Option.some.inj (hd.symm.trans he)
    rw [hu.head, if_pos hnone]
    refine hrest.congr fun k hk f hf => ⟨f, (hu.others k (fun heq => hcurrest (heq ▸ hk)) ?_).trans hf, rfl⟩
    simp [hnone]
  · have hsome : s.scratch.prevNode = some p := by rw [hprev, List.getLast?_concat]
    obtain ⟨e, he⟩ := hl.exists_of_mem (h := p) (by simp)
    rw [hu.head, if_neg (by simp [hsome])]
    rw [List.append_assoc, List.singleton_append] at hl hnodup ⊢
    obtain ⟨hpbefore, hprest, -, -⟩ := nodup_split hnodup
    refine hl.unlink hd ((hu.previous p hsome).trans (congrArg _ he)) rfl fun k hk => hu.others k ?_ ?_
    · rintro rfl
      exact (List.mem_append.mp hk).elim (fun hk => hcurpre (List.mem_append_left _ hk)) hcurrest
    · rw [hsome]
      rintro ⟨⟩
      exact (List.mem_append.mp hk).elim hpbefore fun hk => hprest (List.mem_cons_of_mem _ hk)

/-- R214: a node settled and unlinked, then the rest of the walk. -/
theorem walked_expire {u : State} (hd : s.descs[cur]? = some d) (ht : d.Timing) (hcount : d.countdown = 1#16)
    (hnodup : (pre ++ cur :: rest).Nodup) (hprev : s.scratch.prevNode = pre.getLast?)
    (hu : s.Expired u cur d) (huc : u.configs = s.configs) (hconfigs : t.configs = u.configs)
    (hw : u.Walked t pre rest) : s.Walked t pre (cur :: rest) := by
  obtain ⟨hcurpre, hcurrest, -, hdisjoint⟩ := nodup_split hnodup
  have hpremem {k : Nat} (hk : s.scratch.prevNode = some k) : k ∈ pre := List.mem_of_getLast? (hprev.symm.trans hk)
  have hoff {k : Nat} (hk : k ≠ cur) (hkp : k ∉ pre) : u.descs[k]? = s.descs[k]? :=
    hu.others k hk fun hprevk => hkp (hpremem hprevk)
  have hrest {k : Nat} (hk : k ∈ rest) : u.descs[k]? = s.descs[k]? :=
    hoff (fun heq => hcurrest (heq ▸ hk)) fun hkp => hdisjoint k hkp hk
  have hkept {k : Nat} (hk : k ≠ cur) :
      u.descs[k]?.map Descriptor.apartFromLink = s.descs[k]?.map Descriptor.apartFromLink := by
    by_cases hprevk : s.scratch.prevNode = some k
    · rw [hu.previous k hprevk, Option.map_map]
      rfl
    · rw [hu.others k hk hprevk]
  have hlast : t.descs[cur]? = some d.expired := (hw.untouched cur hcurpre hcurrest).trans hu.self
  refine ⟨?_, fun k hkp hkr => ?_, fun k hk => ?_, fun k hk e he => ?_, ?_⟩
  · have hfilter : rest.filter u.stays = rest.filter s.stays :=
      List.filter_congr fun k hk => by rw [State.stays, hrest hk, State.stays]
    have hleaves : ¬ s.stays cur = true := by rw [stays_eq hd]; simp [hcount]
    rw [List.filter_cons_of_neg hleaves, ← hfilter]
    exact hw.linked
  · obtain ⟨hkcur, hkrest⟩ := not_or.mp (mt List.mem_cons.mpr hkr)
    exact (hw.untouched k hkp hkrest).trans (hoff hkcur hkp)
  · exact (hw.earlier k hk).trans (hkept fun heq => hcurpre (heq ▸ hk))
  · rcases List.mem_cons.mp hk with rfl | hk
    · obtain rfl := Option.some.inj (hd.symm.trans he)
      exact ⟨_, hlast, .of_expired ht hcount⟩
    · exact hw.ticked k hk e ((hrest hk).trans he)
  · refine hu.notified.trans hw.notified huc hconfigs fun k e f g he hf hg hne => ?_
    by_cases hk : k = cur
    · subst hk
      rw [Option.some.inj (hg.symm.trans hlast), Option.some.inj (hf.symm.trans hu.self)]
    · have hlink := hkept hk
      rw [hf, he] at hlink
      exact absurd (congrArg Descriptor.debounced (Option.some.inj hlink)) hne

end

/-- R212: from a set of sound members the walk ends, each node once. -/
theorem tickWalk_walked {rest : List Nat} {pre : List Nat} {n : Nat} {s : State}
    (hl : Linked s.descs s.head (pre ++ rest)) (hnodup : (pre ++ rest).Nodup)
    (hprev : s.scratch.prevNode = pre.getLast?) (hn : rest.length ≤ n)
    (hmembers : ∀ k ∈ rest, ∀ d, s.descs[k]? = some d → d.Sound ∧ d.Timing) :
    ∃ t, tickWalk n rest.head? s = .ok t ∧ s.Walked t pre rest := by
  induction rest generalizing pre n s with
  | nil => exact ⟨s, tickWalk_end n s, walked_nil (by simpa using hl)⟩
  | cons cur rest ih =>
    obtain ⟨n, rfl⟩ := Nat.exists_eq_add_of_le' (Nat.lt_of_lt_of_le (Nat.succ_pos _) hn)
    obtain ⟨hcurpre, hcurrest, hnodup', hdisjoint⟩ := nodup_split hnodup
    obtain ⟨-, d, hd, hnext⟩ := hl.drop
    obtain ⟨hsound, ht⟩ := hmembers cur List.mem_cons_self d hd
    have hn' : rest.length ≤ n := Nat.le_of_succ_le_succ hn
    rw [List.head?_cons]
    by_cases hcount : d.countdown = 1#16
    · have hcur : s.scratch.prevNode ≠ some cur := fun heq => hcurpre (List.mem_of_getLast? (hprev.symm.trans heq))
      obtain ⟨u, hexpire, hu⟩ := tickExpire_expired hd hsound ht hcur
      have hstill {k : Nat} (hk : k ∈ rest) : u.descs[k]? = s.descs[k]? :=
        hu.others k (fun heq => hcurrest (heq ▸ hk))
          fun hprevk => hdisjoint k (List.mem_of_getLast? (hprev.symm.trans hprevk)) hk
      obtain ⟨t, hwalk, hw⟩ := ih (linked_of_expired hl hnodup hprev hd hu) hnodup' (hu.scratch ▸ hprev) hn'
        fun k hk e he => hmembers k (List.mem_cons_of_mem cur hk) e ((hstill hk).symm.trans he)
      refine ⟨t, ?_, walked_expire hd ht hcount hnodup hprev hu (tickExpire_configs hexpire) (tickWalk_configs hwalk) hw⟩
      rw [tickWalk_expire hd (by rw [expiringBit_eq]; exact decide_eq_true hcount), hexpire, hnext.start_eq]
      exact hwalk
    · have hstill {k : Nat} (hk : k ∈ rest) : (decrement cur s).descs[k]? = s.descs[k]? :=
        modDesc_other _ fun heq => hcurrest (heq ▸ hk)
      have hlinked : Linked (decrement cur s).descs s.head ((pre ++ [cur]) ++ rest) := by
        rw [List.append_assoc, List.singleton_append]
        refine hl.congr fun k _ e he => ?_
        by_cases hk : cur = k
        · subst hk
          exact ⟨_, modDesc_same _ he, rfl⟩
        · exact ⟨e, (modDesc_other _ hk).trans he, rfl⟩
      obtain ⟨t, hwalk, hw⟩ := ih (s := setPrevNode (some cur) (decrement cur s)) hlinked (by simpa using hnodup)
        (List.getLast?_concat ..).symm hn'
        fun k hk e he => hmembers k (List.mem_cons_of_mem cur hk) e ((hstill hk).symm.trans he)
      refine ⟨t, ?_, walked_hold hd ht hcount hnodup ((tickWalk_configs hwalk).trans (decrement_configs cur s)) hw⟩
      rw [tickWalk_hold hd (by rw [expiringBit_eq]; exact decide_eq_false hcount), hnext.start_eq]
      exact hwalk

end Sys2Proof.Machine
end

section
/-!
PROOFS. The tick as a whole and the cycle it belongs to (41_scan_cycle.md R121 to R126, 46_active_set.md R212): from a
boundary every cycle with its changed bits below N ends, and what it makes of each descriptor.
-/

namespace Sys2Proof.Machine

open Sys2Proof

/-! ### What a tick makes of one descriptor -/

theorem eq_of_apartFromLink {a b : Descriptor} (h : b.apartFromLink = a.apartFromLink) : b = { a with next := b.next } :=
  congrArg (fun e : Descriptor => { e with next := b.next }) h

theorem sound_of_apartFromLink {a b : Descriptor} (h : b.apartFromLink = a.apartFromLink) (ha : a.Sound) : b.Sound := by
  rw [eq_of_apartFromLink h]
  exact sound_withNext ha b.next

theorem timing_of_apartFromLink {a b : Descriptor} (h : b.apartFromLink = a.apartFromLink) : b.Timing ↔ a.Timing := by
  rw [eq_of_apartFromLink h]
  exact Iff.rfl

theorem debounced_of_apartFromLink {a b : Descriptor} (h : b.apartFromLink = a.apartFromLink) :
    b.debounced = a.debounced := by
  rw [eq_of_apartFromLink h]

theorem raw_of_apartFromLink {a b : Descriptor} (h : b.apartFromLink = a.apartFromLink) : b.raw = a.raw := by
  rw [eq_of_apartFromLink h]

/-- A member that is held (R213). -/
def Descriptor.decremented (d : Descriptor) : Descriptor := { d with countdown := d.countdown - 1#16 }

namespace Descriptor.Ticked

variable {a b : Descriptor}

/-- The three cases of R212 to R214. -/
theorem cases (h : a.Ticked b) :
    ¬ a.Timing ∧ b.apartFromLink = a.apartFromLink ∨
    a.Timing ∧ a.countdown ≠ 1#16 ∧ b.apartFromLink = a.decremented.apartFromLink ∨
    a.Timing ∧ a.countdown = 1#16 ∧ b = a.expired := by
  by_cases ht : a.Timing
  · by_cases hcount : a.countdown = 1#16
    · exact .inr (.inr ⟨ht, hcount, h.expired ht hcount⟩)
    · exact .inr (.inl ⟨ht, hcount, h.held ht hcount⟩)
  · exact .inl ⟨ht, h.stands ht⟩

/-- A tick does not read the link. -/
theorem of_apartFromLink {a' : Descriptor} (h : a.Ticked b) (ha : a'.apartFromLink = a.apartFromLink) :
    a'.Ticked b := by
  rw [eq_of_apartFromLink ha]
  exact ⟨h.stands, h.held, h.expired⟩

/-- What a tick leaves, but for the link, is determined by what it found. -/
theorem determined {b' : Descriptor} (h : a.Ticked b) (h' : a.Ticked b') : b'.apartFromLink = b.apartFromLink := by
  rcases h.cases with ⟨ht, hb⟩ | ⟨ht, hcount, hb⟩ | ⟨ht, hcount, rfl⟩
  · rw [hb, h'.stands ht]
  · rw [hb]
    exact h'.held ht hcount
  · rw [h'.expired ht hcount]
    rfl

theorem expired_settled (hs : a.Sound) (ht : a.Timing) :
    a.expired.Sound ∧ ¬ a.expired.Timing ∧ a.expired.AgreesSettled := by
  have hlevel := hs.level ht.1
  have hraw := raw_eq_levelCode hs ht.1
  cases hr : a.raw.getLsbD 0 with
  | false =>
    have hm : a.expired.machineState = .closed := by simp only [Descriptor.expired, hr]; rfl
    have hdeb : a.expired.debounced = 0#2 := by simp only [Descriptor.expired, hr]; rfl
    have hzero : a.expired.raw = 0#2 := by rw [hr] at hraw; exact hraw
    exact ⟨.of_closed ht.1 hm hdeb hlevel, by simp [Descriptor.Timing, hm],
      fun _ => ⟨fun _ => hzero, fun h => nomatch hm.symm.trans h⟩⟩
  | true =>
    have hm : a.expired.machineState = .opened := by simp only [Descriptor.expired, hr]; rfl
    have hdeb : a.expired.debounced = 1#2 := by simp only [Descriptor.expired, hr]; rfl
    have hone : a.expired.raw = 1#2 := by rw [hr] at hraw; exact hraw
    exact ⟨.of_opened ht.1 hm hdeb hlevel, by simp [Descriptor.Timing, hm],
      fun _ => ⟨fun h => (nomatch hm.symm.trans h), fun _ => hone⟩⟩

/-- R46 (d) for the countdown: a held one keeps within its range. -/
theorem range_of_held {c dur : Ticks} (hlow : 1#16 ≤ c) (hne : c ≠ 1#16) (hhigh : c ≤ dur) :
    1#16 ≤ c - 1#16 ∧ c - 1#16 ≤ dur := by
  constructor <;> bv_omega

/-- R46 (d): a member that is held keeps a countdown of its range. -/
theorem held_sound (hs : a.Sound) (ht : a.Timing) (hcount : a.countdown ≠ 1#16) :
    a.decremented.Sound := by
  obtain ⟨hk, hm | hm⟩ := ht
  · obtain ⟨hdur, hlow, hhigh, hdeb⟩ := hs.opening hk hm
    exact .of_opening hk hm ⟨hdur, range_of_held hlow hcount hhigh⟩ hdeb (hs.level hk)
  · obtain ⟨hdur, hlow, hhigh, hdeb⟩ := hs.closing hk hm
    exact .of_closing hk hm ⟨hdur, range_of_held hlow hcount hhigh⟩ hdeb (hs.level hk)

theorem sound (h : a.Ticked b) (hs : a.Sound) : b.Sound := by
  rcases h.cases with ⟨-, hb⟩ | ⟨ht, hcount, hb⟩ | ⟨ht, -, rfl⟩
  · exact sound_of_apartFromLink hb hs
  · exact sound_of_apartFromLink hb (held_sound hs ht hcount)
  · exact (expired_settled hs ht).1

theorem timing_iff (h : a.Ticked b) (hs : a.Sound) : b.Timing ↔ a.Timing ∧ a.countdown ≠ 1#16 := by
  rcases h.cases with ⟨ht, hb⟩ | ⟨ht, hcount, hb⟩ | ⟨ht, hcount, rfl⟩
  · exact iff_of_false (fun hbt => ht ((timing_of_apartFromLink hb).mp hbt)) fun hat => ht hat.1
  · exact iff_of_true ((timing_of_apartFromLink hb).mpr ht) ⟨ht, hcount⟩
  · exact iff_of_false (expired_settled hs ht).2.1 fun hat => hat.2 hcount

/-- A tick commits nothing for a descriptor whose `debounced` is already the level in raw. -/
theorem debounced_of_level (h : a.Ticked b) (hs : a.Sound) (hlevel : a.debounced = a.raw) :
    b.debounced = a.debounced := by
  rcases h.cases with ⟨-, hb⟩ | ⟨-, -, hb⟩ | ⟨ht, -, rfl⟩
  · exact debounced_of_apartFromLink hb
  · exact (debounced_of_apartFromLink hb).trans rfl
  · rw [hlevel, raw_eq_levelCode hs ht.1]
    rfl

theorem raw (h : a.Ticked b) : b.raw = a.raw := by
  rcases h.cases with ⟨-, hb⟩ | ⟨-, -, hb⟩ | ⟨-, -, rfl⟩
  · exact raw_of_apartFromLink hb
  · exact (raw_of_apartFromLink hb).trans rfl
  · rfl

/-- R46 (b) through a tick. -/
theorem agreesSettled (h : a.Ticked b) (hs : a.Sound) (ha : a.AgreesSettled) : b.AgreesSettled := by
  rcases h.cases with ⟨-, hb⟩ | ⟨ht, hcount, hb⟩ | ⟨ht, -, rfl⟩
  · rw [eq_of_apartFromLink hb]
    exact ha
  · have hbt : b.Timing := (h.timing_iff hs).mpr ⟨ht, hcount⟩
    exact fun _ => by rcases hbt.2 with hm | hm <;> simp [hm]
  · exact (expired_settled hs ht).2.2

end Descriptor.Ticked

/-! ### The whole tick -/

/-- What a tick of `s` leaves in `t`. -/
structure State.TickedTo (s t : State) : Prop where
  each : ∀ (h : Nat) (d : Descriptor), s.descs[h]? = some d →
    ∃ b, t.descs[h]? = some b ∧ d.Ticked b ∧ (¬ d.Timing → b = d)
  set : ∀ l, s.IsAds l → t.IsAds (l.filter s.stays)
  notified : s.NotifiedExactly t

/-- R212 to R216: from a state that meets the invariant the tick ends. -/
theorem tick_ends {s : State} (hs : s.DebounceInv) : ∃ t, tick s = .ok t ∧ s.TickedTo t := by
  obtain ⟨l, hl, hmem⟩ := hs.ads
  have hmembers : ∀ k ∈ l, ∀ d, s.descs[k]? = some d → d.Sound ∧ d.Timing :=
    fun k hk d hd => ⟨hs.sound k d hd, (hmem k d hd).mp hk⟩
  obtain ⟨t, hwalk, hw⟩ := tickWalk_walked (pre := []) (s := setPrevNode none s) hl.1 hl.2 rfl (length_le_ndesc hl) hmembers
  refine ⟨setPrevNode none t, tick_ok.mpr ⟨t, ?_, rfl⟩, fun h d hd => ?_, fun l' hl' => ?_, hw.notified⟩
  · rw [hl.1.start_eq]
    exact hwalk
  · by_cases ht : d.Timing
    · obtain ⟨b, hb, hticked⟩ := hw.ticked h ((hmem h d hd).mpr ht) d hd
      exact ⟨b, hb, hticked, fun hnot => absurd ht hnot⟩
    · have hout : h ∉ l := fun hin => ht ((hmem h d hd).mp hin)
      exact ⟨d, (hw.untouched h List.not_mem_nil hout).trans hd, .of_still ht rfl, fun _ => rfl⟩
  · obtain rfl := hl.1.unique hl'.1
    exact ⟨hw.linked, hl.2.filter _⟩

/-- The tick keeps the set, the links and the soundness of every descriptor. -/
theorem tickedTo_debounceInv {s t : State} (hs : s.DebounceInv) (hreg : t.reg = s.reg) (hconfigs : t.configs = s.configs)
    (ht : s.TickedTo t) : t.DebounceInv := by
  obtain ⟨l, hl, hmem⟩ := hs.ads
  have hback {h : Nat} {b : Descriptor} (hb : t.descs[h]? = some b) :
      ∃ d, s.descs[h]? = some d ∧ d.Ticked b ∧ (¬ d.Timing → b = d) := by
    obtain ⟨d, hd, -⟩ := getElem?_of_configs hconfigs hb
    obtain ⟨b', hb', hticked⟩ := ht.each h d hd
    obtain rfl := Option.some.inj (hb.symm.trans hb')
    exact ⟨d, hd, hticked⟩
  refine ⟨registryInv_of_configs hreg hconfigs hs.registry, fun h b hb => ?_, ⟨_, ht.set l hl, fun h b hb => ?_⟩,
    fun h b hb hnot => ?_⟩
  · obtain ⟨d, hd, hticked, -⟩ := hback hb
    exact hticked.sound (hs.sound h d hd)
  · obtain ⟨d, hd, hticked, -⟩ := hback hb
    rw [List.mem_filter, hmem h d hd, stays_eq hd, decide_eq_true_iff]
    exact (hticked.timing_iff (hs.sound h d hd)).symm
  · obtain ⟨d, hd, hticked, hstill⟩ := hback hb
    rcases hticked.cases with ⟨htd, -⟩ | ⟨htd, hcount, -⟩ | ⟨-, -, rfl⟩
    · rw [hstill htd]
      exact hs.unlinked h d hd htd
    · exact absurd ((hticked.timing_iff (hs.sound h d hd)).mpr ⟨htd, hcount⟩) hnot
    · rfl

/-! ### Step (b): the count, and the tick if it is due (R124) -/

/-- What step (b) makes of each descriptor. -/
structure State.CountedTo (s t : State) : Prop where
  inv : t.DebounceInv
  each : ∀ (h : Nat) (d : Descriptor), s.descs[h]? = some d → ∃ b, t.descs[h]? = some b ∧
    (¬ d.Timing → b = d) ∧ (s.div + 1 = s.params.k → d.Ticked b) ∧ (s.div + 1 ≠ s.params.k → b = d)
  set : ∀ l, s.IsAds l → s.div + 1 = s.params.k → t.IsAds (l.filter s.stays)
  notified : s.NotifiedExactly t

theorem countStep_ends {s : State} (hs : s.DebounceInv) : ∃ t, countStep s = .ok t ∧ s.CountedTo t := by
  by_cases hdue : s.div + 1 = s.params.k
  · have hs' : State.DebounceInv { s with cyc := s.cyc + 1#32, div := 0 } := debounceInv_of_descs hs rfl rfl rfl
    obtain ⟨t, htick, hticked⟩ := tick_ends hs'
    have hinv := tickedTo_debounceInv hs' (reg_of_apartFromDebounce (tick_apartFromDebounce htick))
      (tick_configs htick) hticked
    refine ⟨t, by rw [countStep, if_pos hdue]; exact htick, hinv, fun h d hd => ?_, fun l hl _ => hticked.set l hl,
      hticked.notified⟩
    obtain ⟨b, hb, hd', hstill⟩ := hticked.each h d hd
    exact ⟨b, hb, hstill, fun _ => hd', fun hnot => absurd hdue hnot⟩
  · refine ⟨{ s with cyc := s.cyc + 1#32, div := s.div + 1 }, by rw [countStep, if_neg hdue],
      debounceInv_of_descs hs rfl rfl rfl, fun h d hd => ?_,
      fun _ _ hd => absurd hd hdue, .of_debounced rfl rfl⟩
    exact ⟨d, hd, fun _ => rfl, fun hd => absurd hd hdue, fun _ => rfl⟩

theorem countStep_counted {s t : State} (hs : s.DebounceInv) (ht : countStep s = .ok t) : s.CountedTo t := by
  obtain ⟨u, hu, hcounted⟩ := countStep_ends hs
  cases ht.symm.trans hu
  exact hcounted

/-! ### Step (a): the sample (R122, R123) -/

theorem changedWord_bit_iff (prev rx : Sample) (p : Nat) :
    (changedWord prev rx).getLsbD p = true ↔ prev.getLsbD p ≠ rx.getLsbD p := by
  refine ⟨fun hbit => ?_, changedWord_bit⟩
  simp only [changedWord, BitVec.getLsbD_setWidth, BitVec.getLsbD_xor, Bool.and_eq_true] at hbit
  exact bne_iff_ne.mp hbit.2

/-- A changed bit of the sample that `d` owns, in a cycle that compares (R121, R141). -/
def State.Changes (s : State) (rx : Sample) (d : Descriptor) : Prop :=
  s.skip = 0 ∧ ∃ p, d.Owns p ∧ s.prev.getLsbD p ≠ rx.getLsbD p

/-- What step (a) makes of each descriptor. -/
structure State.SampledTo (s t : State) (rx : Sample) : Prop where
  inv : t.DebounceInv
  changed : ∀ (h : Nat) (d : Descriptor), s.descs[h]? = some d → s.Changes rx d →
    ∃ e, t.descs[h]? = some e ∧ e.apartFromLink = (d.afterEvent rx).apartFromLink
  unchanged : ∀ (h : Nat) (d : Descriptor), s.descs[h]? = some d → ¬ s.Changes rx d → t.descs[h]? = some d
  notified : s.NotifiedExactly t

theorem sampleStep_sampled {s t : State} {rx : Sample} (hs : s.DebounceInv) (ht : sampleStep rx s = .ok t) :
    s.SampledTo t rx := by
  rw [sampleStep] at ht
  split at ht
  · next hskip =>
    cases ht
    exact ⟨debounceInv_of_descs hs rfl rfl rfl, fun _ _ _ hc => absurd hc.1 (Nat.ne_of_gt hskip), fun _ _ hd _ => hd,
      .of_debounced rfl rfl⟩
  · next hskip =>
    have hzero : s.skip = 0 := Nat.eq_zero_of_not_pos hskip
    obtain ⟨u, hu, rfl⟩ := scanSample_ok.mp ht
    have hd := dispatchLoop_dispatched (s := beginScan rx s) (debounceInv_of_descs hs rfl rfl rfl) hu
    refine ⟨debounceInv_of_descs hd.inv rfl rfl rfl, fun h d hd' ⟨_, p, hp, hne⟩ => ?_, fun h d hd' hnot => ?_,
      hd.notified⟩
    · exact hd.changed h d hd' ⟨p, hp, changedWord_bit hne⟩
    · refine hd.unchanged h d hd' fun p hp => Bool.eq_false_iff.mpr fun hbit => hnot ⟨hzero, p, hp, ?_⟩
      exact (changedWord_bit_iff s.prev rx p).mp hbit

/-- A cycle is not abandoned if it discards its sample, or if every changed bit has a slot (R122, R143). -/
def State.Fits (s : State) (rx : Sample) : Prop :=
  0 < s.skip ∨ ∀ p, s.prev.getLsbD p ≠ rx.getLsbD p → p < s.nSlots

theorem sampleStep_ends {s : State} {rx : Sample} (hs : s.RegistryInv) (hfits : s.Fits rx) :
    ∃ t, sampleStep rx s = .ok t := by
  by_cases hskip : 0 < s.skip
  · exact ⟨_, sampleStep_startup rx hskip⟩
  · have hbelow := hfits.resolve_left hskip
    obtain ⟨t, ht⟩ := dispatchLoop_ends (dir := s.params.scanDir) (registryInv_of_descs (t := beginScan rx s) hs rfl rfl)
      (popcount_le _) fun p hp => hbelow p ((changedWord_bit_iff s.prev rx p).mp hp)
    exact ⟨_, by rw [sampleStep, if_neg hskip, scanSample, ht]⟩

/-! ### The cycle (R121) -/

/-- What a cycle makes of each descriptor `d`: `e` by its event, if a position of it changed, and `b` by the tick. -/
structure State.CycledTo (s t : State) (rx : Sample) : Prop where
  inv : t.DebounceInv
  each : ∀ (h : Nat) (d : Descriptor), s.descs[h]? = some d → ∃ e b, t.descs[h]? = some b ∧
    (s.Changes rx d → e.apartFromLink = (d.afterEvent rx).apartFromLink) ∧ (¬ s.Changes rx d → e = d) ∧
    (¬ e.Timing → b = e) ∧ (s.div + 1 = s.params.k → e.Ticked b) ∧ (s.div + 1 ≠ s.params.k → b = e)
  notified : s.NotifiedExactly t

theorem cycleSteps_cycled {s t : State} {rx : Sample} (hs : s.DebounceInv) (ht : cycleSteps rx s = .ok t) :
    s.CycledTo t rx := by
  obtain ⟨u, v, hu, hv, rfl⟩ := cycleSteps_ok.mp ht
  have hsampled := sampleStep_sampled hs hu
  have hcounted := countStep_counted hsampled.inv hv
  have hdue : u.div + 1 = u.params.k ↔ s.div + 1 = s.params.k := by
    rw [eq_of_apartFromDebounce (sampleStep_apartFromDebounce hu)]
  have hevent {h : Nat} {d : Descriptor} (hd : s.descs[h]? = some d) : ∃ e, u.descs[h]? = some e ∧
      (s.Changes rx d → e.apartFromLink = (d.afterEvent rx).apartFromLink) ∧ (¬ s.Changes rx d → e = d) := by
    by_cases hc : s.Changes rx d
    · obtain ⟨e, he, hlink⟩ := hsampled.changed h d hd hc
      exact ⟨e, he, fun _ => hlink, fun hnot => absurd hc hnot⟩
    · exact ⟨d, hsampled.unchanged h d hd hc, fun hyes => absurd hyes hc, fun _ => rfl⟩
  refine ⟨debounceInv_of_descs hcounted.inv rfl rfl rfl, fun h d hd => ?_, ?_⟩
  · obtain ⟨e, he, hchanged, hunchanged⟩ := hevent hd
    obtain ⟨b, hb, hstill, htick, hnotick⟩ := hcounted.each h e he
    exact ⟨e, b, hb, hchanged, hunchanged, hstill, fun hk => htick (hdue.mpr hk), fun hk => hnotick (mt hdue.mp hk)⟩
  · refine (hsampled.notified.trans hcounted.notified (sampleStep_configs hu) (countStep_configs hv) ?_).quiet rfl rfl
    intro h d e b hd he hb hne
    obtain ⟨e', he', hchanged, hunchanged⟩ := hevent hd
    obtain rfl := Option.some.inj (he.symm.trans he')
    obtain ⟨b', hb', -, htick, hnotick⟩ := hcounted.each h e he
    obtain rfl := Option.some.inj (hb.symm.trans hb')
    have hc : s.Changes rx d := by
      by_contra hnot
      exact hne (congrArg Descriptor.debounced (hunchanged hnot))
    have hlink := hchanged hc
    have hlevel : e.debounced = e.raw := by
      rw [debounced_of_apartFromLink hlink] at hne ⊢
      rw [raw_of_apartFromLink hlink]
      exact (event_suits (hs.sound h d hd) rx).2.2.2.1 hne
    by_cases hk : u.div + 1 = u.params.k
    · exact (htick hk).debounced_of_level (hsampled.inv.sound h e he) hlevel
    · rw [hnotick hk]

theorem cycleSteps_ends {s : State} {rx : Sample} (hs : s.DebounceInv) (hfits : s.Fits rx) :
    ∃ t, cycleSteps rx s = .ok t := by
  obtain ⟨u, hu⟩ := sampleStep_ends hs.registry hfits
  obtain ⟨v, hv, -⟩ := countStep_ends (sampleStep_sampled hs hu).inv
  exact ⟨_, cycleSteps_ok.mpr ⟨u, v, hu, hv, rfl⟩⟩

/-! ### The scratch between steps (R43) -/

theorem tickExpire_scratch {cur : Nat} {s t : State} (ht : tickExpire cur s = .ok t) : t.scratch = s.scratch := by
  obtain ⟨d, u, -, hu, rfl⟩ := tickExpire_ok.mp ht
  obtain ⟨e, row, he, -, rfl⟩ := settle_ok.mp hu
  have hunlink (p nxt : Option Nat) (v : State) : (adsUnlink cur p nxt v).scratch = v.scratch := by cases p <;> rfl
  rw [hunlink, runSettle_eq_move, Move.run_scratch he]
  rfl

/-- The walk writes the cursor and nothing else of the scratch. -/
theorem tickWalk_scratch {n : Nat} {cur : Option Nat} {s t : State} (ht : tickWalk n cur s = .ok t) :
    { t.scratch with prevNode := none } = { s.scratch with prevNode := none } := by
  fun_induction tickWalk n cur s with
  | case1 => cases ht; rfl
  | case2 | case3 | case5 => cases ht
  | case4 n cur s d _ _ ih => exact ih ht
  | case6 n cur s d _ _ u hu ih => exact (ih ht).trans (by rw [tickExpire_scratch hu])

theorem countStep_idle {s t : State} (hidle : s.scratch = Scratch.idle) (ht : countStep s = .ok t) :
    t.scratch = Scratch.idle := by
  unfold countStep at ht
  split at ht
  · obtain ⟨u, hu, rfl⟩ := tick_ok.mp ht
    have hwalk := tickWalk_scratch hu
    exact hwalk.trans (congrArg (fun c : Scratch => { c with prevNode := none }) hidle)
  · cases ht; exact hidle

theorem sampleStep_idle {rx : Sample} {s t : State} (hidle : s.scratch = Scratch.idle) (ht : sampleStep rx s = .ok t) :
    t.scratch = Scratch.idle := by
  rw [sampleStep] at ht
  split at ht
  · cases ht; exact hidle
  · obtain ⟨u, -, rfl⟩ := scanSample_ok.mp ht
    rfl

theorem cycleSteps_idle {rx : Sample} {s t : State} (hidle : s.scratch = Scratch.idle) (ht : cycleSteps rx s = .ok t) :
    t.scratch = Scratch.idle := by
  obtain ⟨u, v, hu, hv, rfl⟩ := cycleSteps_ok.mp ht
  have hcount := countStep_idle (sampleStep_idle hidle hu) hv
  exact hcount

/-! ### XFER_DONE at a boundary (R74, R127) -/

theorem exec_xferDone_of_ok {s t : State} {rx : Sample} (hrun : s.halted = false) (harmed : s.armed = true)
    (hc : cycleSteps rx s = .ok t) : exec (.xferDone rx) s = .next t :=
  execXferDone_next.mpr ⟨hrun, harmed, .inl hc⟩

/-- With N >= W no changed bit is beyond the registry. -/
theorem fits_of_wide {s : State} (rx : Sample) (hwide : 16 ≤ s.nSlots) : s.Fits rx := by
  refine .inr fun p hne => ?_
  have hp : p < 16 := by
    by_contra hge
    simp [BitVec.getLsbD_of_ge _ p (Nat.le_of_not_lt hge)] at hne
  omega

/-- Settles O57: the cycle ends, or meets a bit beyond N and halts; and without a transfer it is not enabled. -/
theorem completionEnabledExactlyWhenOutstanding : Obligations.CompletionEnabledExactlyWhenOutstanding := by
  intro s rx hinv
  constructor
  · rintro ⟨t, ht⟩
    obtain ⟨hrun, harmed, -⟩ := execXferDone_next.mp ht
    simp [State.outstanding, hrun, harmed]
  · intro hout
    obtain ⟨harmed, hrun⟩ : s.armed = true ∧ s.halted = false := by simpa [State.outstanding] using hout
    have hs := (hinv.running hrun).debounce
    by_cases hfits : s.Fits rx
    · obtain ⟨t, ht⟩ := cycleSteps_ends hs hfits
      exact ⟨t, exec_xferDone_of_ok hrun harmed ht⟩
    · simp only [State.Fits, not_or, not_forall] at hfits
      obtain ⟨hskip, p, hne, hp⟩ := hfits
      have habandoned := cycleSteps_scanRange hs.registry (Nat.eq_zero_of_not_pos hskip) (Nat.le_of_not_lt hp) hne
      exact ⟨_, execXferDone_next.mpr ⟨hrun, harmed, .inr ⟨_, habandoned, rfl⟩⟩⟩

/-- Settles O42: with N >= W the cycle ends, and what it writes beside the debounce state does not depend on D. -/
theorem scanCycleRunsToItsEnd : Obligations.ScanCycleRunsToItsEnd := by
  intro s rx hinv hrun harmed hwide
  obtain ⟨t, ht⟩ := cycleSteps_ends (hinv.running hrun).debounce (fits_of_wide rx hwide)
  have hconfigs : t.descs.map Descriptor.config = s.descs.map Descriptor.config := cycleSteps_configs ht
  have hidle := cycleSteps_idle hinv.idle ht
  have herr : s.err = 0#4 := hinv.phase.1 hrun
  refine ⟨t, exec_xferDone_of_ok hrun harmed ht, ?_⟩
  rw [cycleSteps_eq ht]
  exact ⟨rfl, rfl, rfl, rfl, rfl, harmed, hrun, herr, rfl, rfl, rfl, hconfigs, hidle, rfl⟩

end Sys2Proof.Machine
end

section
/-!
PROOFS. What a whole scan cycle does (41_scan_cycle.md R121 to R128, 42_change_detector.md R147, 46_active_set.md R212 to
R215): a repeated sample, the one event of each changed owner and the tick after it, and the order of the set.
-/

namespace Sys2Proof.Machine

open Sys2Proof

/-! ### A repeated sample (R128) -/

theorem changedWord_self (prev : Sample) : changedWord prev prev = 0#32 := by
  rw [changedWord, BitVec.xor_self]
  rfl

/-- A repeated sample has no changed bit to dispatch. -/
theorem sampleStep_repeated {s : State} (hskip : s.skip = 0) (hidle : s.scratch = Scratch.idle) :
    sampleStep s.prev s = .ok s := by
  have hwork : scan s.params.scanDir (beginScan s.prev s).scratch.work = none := by
    rw [beginScan_scratch, changedWord_self]
    exact scan_zero _
  have hscratch : { endScan (beginScan s.prev s) with prev := s.prev } = s :=
    congrArg (fun c => { s with scratch := c }) hidle.symm
  rw [sampleStep, if_neg (by omega), scanSample, dispatchLoop_done hwork]
  exact congrArg Except.ok hscratch

theorem cycleSteps_repeated {s t : State} (hskip : s.skip = 0) (hidle : s.scratch = Scratch.idle)
    (ht : countStep s = .ok t) : cycleSteps s.prev s = .ok (issueTransfer t) :=
  cycleSteps_ok.mpr ⟨s, t, sampleStep_repeated hskip hidle, ht, rfl⟩

/-- Settles O41: no bit to dispatch, and no tick. -/
theorem repeatedSampleOnlyCounts : Obligations.RepeatedSampleOnlyCounts := by
  intro s hrun harmed hskip hdue hidle
  have hcount : countStep s = .ok { s with cyc := s.cyc + 1#32, div := s.div + 1 } := by rw [countStep, if_neg hdue]
  exact exec_xferDone_of_ok hrun harmed (cycleSteps_repeated hskip hidle hcount)

/-- Settles O46: no bit to dispatch, so the cycle is the tick. -/
theorem tickAdvancesEveryMember : Obligations.TickAdvancesEveryMember := by
  intro s l hinv hrun harmed hskip hdue hl
  obtain ⟨t, ht, hcounted⟩ := countStep_ends (hinv.running hrun).debounce
  refine ⟨_, exec_xferDone_of_ok hrun harmed (cycleSteps_repeated hskip hinv.idle ht),
    hcounted.notified.quiet rfl rfl, hcounted.set l hl hdue, fun h d hd => ?_⟩
  obtain ⟨b, hb, hstill, htick, -⟩ := hcounted.each h d hd
  have hticked := htick hdue
  refine ⟨fun hnot => ?_, fun hmember hcount => ⟨b, hb, hticked.held hmember hcount⟩, fun hmember hcount => ?_⟩
  · rw [← hstill hnot]
    exact hb
  · rw [← hticked.expired hmember hcount]
    exact hb

/-! ### The events of a compared cycle (R147 (1)) -/

/-- The event that R145 and R146 give a descriptor is the move it selects. -/
theorem event_of_kind {s : State} {h : Nat} {d : Descriptor} (rx : Sample) (hd : s.descs[h]? = some d) :
    (match d.kind with
      | .pushbutton => pbEvent h (rx.getLsbD d.bitPrimary.toNat) s
      | .pair => pairEvent h rx s) = .ok ((d.event rx).run h s) := by
  cases hk : d.kind with
  | pushbutton => exact pbEvent_eq_event rx hd hk
  | pair => exact pairEvent_eq_event rx hd hk

/-- A compared cycle with N >= W, from a state that meets the invariant. -/
theorem xferDone_cycled {s : State} (rx : Sample) (hinv : s.Inv) (hrun : s.halted = false) (harmed : s.armed = true)
    (hwide : 16 ≤ s.nSlots) : ∃ t, exec (.xferDone rx) s = .next t ∧ s.CycledTo t rx := by
  have hs := (hinv.running hrun).debounce
  obtain ⟨t, ht⟩ := cycleSteps_ends hs (fits_of_wide rx hwide)
  exact ⟨t, exec_xferDone_of_ok hrun harmed ht, cycleSteps_cycled hs ht⟩

/-- Settles O43: `a` is the descriptor, or what its one event alone makes of it. -/
theorem everyChangeReachesItsOwnerOnce : Obligations.EveryChangeReachesItsOwnerOnce := by
  intro s rx hinv hrun harmed hskip hwide
  obtain ⟨t, ht, hcycled⟩ := xferDone_cycled rx hinv hrun harmed hwide
  refine ⟨t, ht, hcycled.notified, fun h d hd => ?_⟩
  obtain ⟨e, b, hb, hchanged, hunchanged, hstill, htick, hnotick⟩ := hcycled.each h d hd
  by_cases hc : ∃ p, d.Owns p ∧ s.prev.getLsbD p ≠ rx.getLsbD p
  · have hlink : ((d.event rx).result s.head d).apartFromLink = e.apartFromLink :=
      (Move.result_apartFromLink s.head).trans (hchanged ⟨hskip, hc⟩).symm
    refine ⟨_, b, hb, fun hsame => ?_, fun _ => ⟨_, event_of_kind rx hd, Move.run_self hd⟩, fun hk => ?_,
      fun hk => (htick hk).of_apartFromLink hlink⟩
    · obtain ⟨p, hp, hne⟩ := hc
      exact absurd (hsame p hp) hne
    · rw [hnotick hk]
      exact hlink.symm
  · obtain rfl := hunchanged fun hyes => hc hyes.2
    exact ⟨e, b, hb, fun _ => ⟨rfl, fun hk => hk.elim hnotick hstill⟩, fun hyes => absurd hyes hc,
      fun hk => congrArg Descriptor.apartFromLink (hnotick hk), htick⟩

/-! ### The countdown of the same cycle (R125, R252) -/

theorem levelCode_bit (r : Bool) : (levelCode r).getLsbD 0 = r := by cases r <;> rfl

section
variable {d : Descriptor} {rx : Sample} (hk : d.kind = .pushbutton)
include hk

theorem afterEvent_of_pushbutton :
    d.afterEvent rx = (pbMove (decodePbev (pbSelector (d.sampled rx)))).write (d.sampled rx) := by
  rw [afterEvent_eq, Descriptor.selected, show (d.sampled rx).kind = .pushbutton from hk]

theorem sampled_level : (d.sampled rx).raw.getLsbD 0 = rx.getLsbD d.bitPrimary.toNat := by
  simp only [Descriptor.sampled, hk]
  exact levelCode_bit _

/-- R172, R173, R178: an opening out of Closed, and any change in Opening, load the opening's countdown. -/
theorem afterEvent_opening (hm : d.machineState = .closed ∨ d.machineState = .opening)
    (hclosed : d.machineState = .closed → rx.getLsbD d.bitPrimary.toNat = true) (hdur : d.durationOpening ≠ 0#16) :
    (d.afterEvent rx).countdown = d.durationOpening ∧ (d.afterEvent rx).machineState = .opening := by
  rw [afterEvent_of_pushbutton hk]
  rcases hm with hm | hm
  · rw [pbRow_of_closed_readsOpen (d := d.sampled rx) hm ((sampled_level hk).trans (hclosed hm)),
      if_neg (show (d.sampled rx).durationOpening ≠ 0#16 from hdur)]
    split <;> exact ⟨rfl, rfl⟩
  · rw [pbRow_of_opening (d := d.sampled rx) hm]
    exact ⟨rfl, hm⟩

/-- R175, R176, R179: a closing out of Open, and any change in Closing, load the closing's countdown. -/
theorem afterEvent_closing (hm : d.machineState = .opened ∨ d.machineState = .closing)
    (hopened : d.machineState = .opened → rx.getLsbD d.bitPrimary.toNat = false) (hdur : d.durationClosing ≠ 0#16) :
    (d.afterEvent rx).countdown = d.durationClosing ∧ (d.afterEvent rx).machineState = .closing := by
  rw [afterEvent_of_pushbutton hk]
  rcases hm with hm | hm
  · rw [pbRow_of_opened_readsClosed (d := d.sampled rx) hm ((sampled_level hk).trans (hopened hm)),
      if_neg (show (d.sampled rx).durationClosing ≠ 0#16 from hdur)]
    split <;> exact ⟨rfl, rfl⟩
  · rw [pbRow_of_closing (d := d.sampled rx) hm]
    exact ⟨rfl, hm⟩

theorem afterEvent_kind : (d.afterEvent rx).kind = .pushbutton := by
  have hkind : (d.afterEvent rx).config.kind = d.config.kind := by rw [afterEvent_config]
  exact hkind.trans hk

theorem afterEvent_level (hs : d.Sound) : (d.afterEvent rx).raw.getLsbD 0 = rx.getLsbD d.bitPrimary.toNat := by
  obtain ⟨-, -, -, -, hraw, -⟩ := event_suits hs rx
  rw [hraw]
  exact sampled_level hk

end

/-- What the tick makes of a timing descriptor with a countdown just loaded (R213, R214). -/
theorem Descriptor.Ticked.of_loaded {a b : Descriptor} {r : Bool} (h : a.Ticked b) (ht : a.Timing)
    (hr : a.raw.getLsbD 0 = r) :
    (2#16 ≤ a.countdown → b.countdown = a.countdown - 1#16 ∧ b.machineState = a.machineState) ∧
    (a.countdown = 1#16 → b.countdown = 0#16 ∧ b.machineState = (if r then .opened else .closed) ∧
      b.debounced = levelCode r ∧ b.next = none) := by
  refine ⟨fun htwo => ?_, fun hone => ?_⟩
  · have hcount : a.countdown ≠ 1#16 := by bv_omega
    have hb : b.apartFromLink = a.decremented.apartFromLink := h.held ht hcount
    rw [eq_of_apartFromLink hb]
    exact ⟨rfl, rfl⟩
  · rw [h.expired ht hone, hr]
    exact ⟨rfl, rfl, rfl, rfl⟩

/-- Settles O44: the event loads the countdown, and the tick of the same cycle finds it. -/
theorem tickCountsTheCountdownOfItsOwnCycle : Obligations.TickCountsTheCountdownOfItsOwnCycle := by
  intro s rx h d r dur hinv hrun harmed hskip hwide hdue hd hk hr hne hclosed hopened hdur
  subst hr
  have hs := (hinv.running hrun).sound h d hd
  obtain ⟨t, ht, hcycled⟩ := xferDone_cycled rx hinv hrun harmed hwide
  obtain ⟨e, b, hb, hchanged, -, -, htick, -⟩ := hcycled.each h d hd
  have hlink := hchanged ⟨hskip, _, .inl rfl, hne⟩
  have hticked := (htick hdue).of_apartFromLink hlink.symm
  refine ⟨t, b, ht, hb, ?_⟩
  have hloaded {m : MachineState} (hm : m = .opening ∨ m = .closing) (hload : dur ≠ 0#16 →
        (d.afterEvent rx).countdown = dur ∧ (d.afterEvent rx).machineState = m) :
      (2#16 ≤ dur → b.countdown = dur - 1#16 ∧ b.machineState = m) ∧
      (dur = 1#16 → b.countdown = 0#16 ∧
        b.machineState = (if rx.getLsbD d.bitPrimary.toNat then .opened else .closed) ∧
        b.debounced = levelCode (rx.getLsbD d.bitPrimary.toNat) ∧ b.next = none) := by
    by_cases hzero : dur = 0#16
    · subst hzero
      exact ⟨fun h => absurd h (by decide), fun h => absurd h (by decide)⟩
    · obtain ⟨hcount, hstate⟩ := hload hzero
      have htiming : (d.afterEvent rx).Timing := ⟨afterEvent_kind hk, by rw [hstate]; exact hm⟩
      rw [← hcount, ← hstate]
      exact hticked.of_loaded htiming (afterEvent_level hk hs)
  by_cases hm : d.machineState = .closed ∨ d.machineState = .opening
  · rw [if_pos hm] at hdur ⊢
    exact hloaded (.inl rfl) fun hz => hdur ▸ afterEvent_opening hk hm hclosed (hdur ▸ hz)
  · have hm' : d.machineState = .opened ∨ d.machineState = .closing := by
      cases hd : d.machineState <;> simp [hd] at hm ⊢
    rw [if_neg hm] at hdur ⊢
    exact hloaded (.inr rfl) fun hz => hdur ▸ afterEvent_closing hk hm' hopened (hdur ▸ hz)

/-! ### The order of the set (R147 (2), R215) -/

/-- The cycles of two states that differ in SCAN_DIR alone leave every descriptor the same but for its link. -/
theorem State.CycledTo.apartFromLink_eq {s s' t t' : State} {rx : Sample} (hc : s.CycledTo t rx)
    (hc' : s'.CycledTo t' rx) (hdescs : s'.descs = s.descs) (hskip : s'.skip = s.skip) (hprev : s'.prev = s.prev)
    (hdue : s'.div + 1 = s'.params.k ↔ s.div + 1 = s.params.k) {h : Nat} {d : Descriptor} (hd : s.descs[h]? = some d) :
    ∃ b b', t.descs[h]? = some b ∧ t'.descs[h]? = some b' ∧ b'.apartFromLink = b.apartFromLink := by
  have hchanges : s'.Changes rx d ↔ s.Changes rx d := by rw [State.Changes, State.Changes, hskip, hprev]
  obtain ⟨e, b, hb, hchanged, hunchanged, -, htick, hnotick⟩ := hc.each h d hd
  obtain ⟨e', b', hb', hchanged', hunchanged', -, htick', hnotick'⟩ := hc'.each h d (hdescs ▸ hd)
  refine ⟨b, b', hb, hb', ?_⟩
  have hevent : e'.apartFromLink = e.apartFromLink := by
    by_cases hyes : s.Changes rx d
    · rw [hchanged hyes, hchanged' (hchanges.mpr hyes)]
    · rw [hunchanged hyes, hunchanged' (mt hchanges.mp hyes)]
  by_cases hk : s.div + 1 = s.params.k
  · exact (htick hk).determined ((htick' (hdue.mpr hk)).of_apartFromLink hevent.symm)
  · rw [hnotick hk, hnotick' (mt hdue.mp hk)]
    exact hevent

theorem getElem?_none_of_configs {s t : State} (hc : t.configs = s.configs) {h : Nat} (hd : s.descs[h]? = none) :
    t.descs[h]? = none := by
  rw [List.getElem?_eq_none_iff] at hd ⊢
  exact (ndesc_of_configs hc).trans_le hd

/-- PEND after a part of a cycle is determined by what was committed in it. -/
theorem State.NotifiedExactly.pend_eq {s t t' : State} (hn : s.NotifiedExactly t) (hn' : s.NotifiedExactly t')
    (hdeb : t'.descs.map Descriptor.debounced = t.descs.map Descriptor.debounced) : t'.pend = t.pend := by
  have hsame : s.NotifiedExactly { t' with pend := t.pend } := hn.quiet rfl hdeb
  refine Vector.ext fun c hc => BitVec.eq_of_getLsbD_eq fun p _ => Bool.eq_iff_iff.mpr ?_
  have hbits := (hn' (BitVec.ofNat 4 c) p).trans (hsame (BitVec.ofNat 4 c) p).symm
  simpa only [State.pendOf, BitVec.toNat_ofNat, Nat.mod_eq_of_lt hc] using hbits

theorem map_debounced_of_apartFromLink {l l' : List Descriptor}
    (h : l'.map Descriptor.apartFromLink = l.map Descriptor.apartFromLink) :
    l'.map Descriptor.debounced = l.map Descriptor.debounced := by
  have hlists (l : List Descriptor) :
      (l.map Descriptor.apartFromLink).map Descriptor.debounced = l.map Descriptor.debounced := List.map_map
  rw [← hlists l', h, hlists l]

/-- Settles O47: no part of what a cycle leaves, but the links, depends on the order of its passes. -/
theorem scanDirectionIsUnobservable : Obligations.ScanDirectionIsUnobservable := by
  intro s t rx dir hinv hwide ht
  obtain ⟨hrun, harmed, hcycle⟩ := execXferDone_next.mp ht
  have hs := (hinv.running hrun).debounce
  have hfits := fits_of_wide rx hwide
  obtain ⟨u, hu⟩ := cycleSteps_ends hs hfits
  have ht : cycleSteps rx s = .ok t := by
    refine hcycle.resolve_right ?_
    rintro ⟨code, habandoned, -⟩
    rw [hu] at habandoned
    cases habandoned
  have hs' : State.DebounceInv { s with params := { s.params with scanDir := dir } } := debounceInv_of_descs hs rfl rfl rfl
  obtain ⟨t', ht'⟩ := cycleSteps_ends hs' hfits
  refine ⟨t', exec_xferDone_of_ok hrun harmed ht', ?_⟩
  have hc := cycleSteps_cycled hs ht
  have hc' := cycleSteps_cycled hs' ht'
  have hlinks : t'.descs.map Descriptor.apartFromLink = t.descs.map Descriptor.apartFromLink := by
    refine List.ext_getElem? fun h => ?_
    rw [List.getElem?_map, List.getElem?_map]
    cases hd : s.descs[h]? with
    | none => rw [getElem?_none_of_configs (cycleSteps_configs ht) hd, getElem?_none_of_configs (cycleSteps_configs ht') hd]
    | some d =>
      obtain ⟨b, b', hb, hb', hlink⟩ := hc.apartFromLink_eq hc' rfl rfl rfl Iff.rfl hd
      rw [hb, hb', Option.map_some, Option.map_some, hlink]
  have hpend : t'.pend = t.pend := hc.notified.pend_eq hc'.notified (map_debounced_of_apartFromLink hlinks)
  refine ⟨hlinks, ?_, hpend, ?_⟩ <;> rw [cycleSteps_eq ht, cycleSteps_eq ht']
  · rfl
  · exact ⟨rfl, rfl, rfl, rfl, rfl, rfl, rfl, rfl, rfl⟩

end Sys2Proof.Machine
end

section
/-!
PROOFS. The invariant of the engine (10_state.md R45, R46): it holds at reset, every agent's operation keeps it in an
engine of at most 32 slots, and the one step that can break it is a RESET out of HALT in a longer registry, of which the
invariant says nothing while HALTED = 1.
-/

namespace Sys2Proof.Machine

open Sys2Proof

/-! ### Descriptors as REGISTER leaves them (R46 (h)) -/

namespace Descriptor.Fresh

variable {d : Descriptor}

theorem sound (hf : d.Fresh) : d.Sound := by
  obtain ⟨hraw, hdeb, hm, -, -⟩ := hf
  cases hk : d.kind with
  | pushbutton => exact .of_closed hk hm hdeb (.inl hraw)
  | pair => exact .of_pair hk (by rw [hdeb]; decide) hm

theorem not_timing (hf : d.Fresh) : ¬ d.Timing := by
  obtain ⟨-, -, hm, -, -⟩ := hf
  simp [Descriptor.Timing, hm]

theorem tracks (hf : d.Fresh) : d.TracksSample 0#16 := by
  obtain ⟨hraw, -⟩ := hf
  cases hk : d.kind with
  | pushbutton => simp [Descriptor.TracksSample, hk, hraw, levelCode, sampleBit]
  | pair => simp [Descriptor.TracksSample, hk, hraw, pairCode, sampleBit]

theorem agreesSettled (hf : d.Fresh) : d.AgreesSettled := by
  obtain ⟨hraw, -, hm, -, -⟩ := hf
  exact fun _ => ⟨fun _ => hraw, fun h => nomatch hm.symm.trans h⟩

end Descriptor.Fresh

/-! ### raw and the compared sample (R46 (a)) -/

theorem tracks_of_config {d e : Descriptor} {prev : Sample} (hc : e.config = d.config) (hraw : e.raw = d.raw)
    (hd : d.TracksSample prev) : e.TracksSample prev := by
  have hkind : e.kind = d.kind := show e.config.kind = d.config.kind by rw [hc]
  have hprimary : e.bitPrimary = d.bitPrimary := show e.config.bitPrimary = d.config.bitPrimary by rw [hc]
  have hsecondary : e.bitSecondary = d.bitSecondary := show e.config.bitSecondary = d.config.bitSecondary by rw [hc]
  simp only [Descriptor.TracksSample, pairCode, hkind, hprimary, hsecondary, hraw] at hd ⊢
  exact hd

theorem tracks_of_unchanged {d : Descriptor} {prev rx : Sample} (hsame : ∀ p, d.Owns p → prev.getLsbD p = rx.getLsbD p)
    (hd : d.TracksSample prev) : d.TracksSample rx := by
  have hprimary := hsame _ (.inl rfl)
  cases hk : d.kind with
  | pushbutton =>
    simp only [Descriptor.TracksSample, hk, sampleBit, hprimary] at hd ⊢
    exact hd
  | pair =>
    have hsecondary := hsame _ (.inr ⟨hk, rfl⟩)
    simp only [Descriptor.TracksSample, hk, pairCode, sampleBit, hprimary, hsecondary] at hd ⊢
    exact hd

/-! ### Reset (R48) -/

/-- R270: the powered-up engine meets the running invariant, whatever the frames to come. -/
theorem powerUp_runningInv (params : Params) {n : Nat} (hn : n ≤ 32) : (State.powerUp params n).RunningInv where
  registry := powerUp_registryInv params hn
  sound h d hd := by simp [State.powerUp] at hd
  ads := ⟨[], ⟨rfl, List.nodup_nil⟩, fun h d hd => by simp [State.powerUp] at hd⟩
  unlinked h d hd := by simp [State.powerUp] at hd
  div_lt := Nat.succ_pos _
  skip_le := le_rfl
  discarding _ := ⟨rfl, fun h d hd => by simp [State.powerUp] at hd⟩
  unarmed _ := ⟨rfl, fun h d hd => by simp [State.powerUp] at hd⟩
  tracks _ h d hd := by simp [State.powerUp] at hd

/-- Settles O53: reset is the power-up with N = 16. -/
theorem resetMeetsInvariant : Obligations.ResetMeetsInvariant where
  phase := ⟨fun _ => rfl, fun h => nomatch h⟩
  idle := rfl
  agents f hf := nomatch hf
  running _ := powerUp_runningInv Config.board (by decide)

/-! ### The running invariant through an operation -/

/-- An operation that writes none of what the running invariant speaks of, except that it may arm. -/
theorem runningInv_of_same {s t : State} (hs : s.RunningInv) (hparams : t.params = s.params) (hreg : t.reg = s.reg)
    (hdescs : t.descs = s.descs) (hhead : t.head = s.head) (hprev : t.prev = s.prev) (hdiv : t.div = s.div)
    (hskip : t.skip = s.skip) (harmed : t.armed = false → s.armed = false) : t.RunningInv where
  registry := registryInv_of_descs hs.registry hreg hdescs
  sound := hdescs ▸ hs.sound
  ads := (debounceInv_of_descs hs.debounce hreg hdescs hhead).ads
  unlinked := hdescs ▸ hs.unlinked
  div_lt := by rw [hdiv, hparams]; exact hs.div_lt
  skip_le := by rw [hskip, hparams]; exact hs.skip_le
  discarding := by rw [hskip, hprev, hdescs]; exact hs.discarding
  unarmed h := by rw [hprev, hdescs]; exact hs.unarmed (harmed h)
  tracks := by rw [hparams, hprev, hdescs]; exact hs.tracks

/-- R155: REGISTER appends a fresh descriptor, which is no member of the set. -/
theorem allocate_debounceInv {s : State} {d : Descriptor} {bp : Nat} {bs : Option Nat} (hs : s.DebounceInv)
    (hf : FreeFor s d bp bs) (hfresh : d.Fresh) : (allocate d bp bs s).DebounceInv := by
  have hdescs : (allocate d bp bs s).descs = s.descs ++ [d] := by rw [allocate_frame]
  have hhead : (allocate d bp bs s).head = s.head := by rw [allocate_frame]
  obtain ⟨l, ⟨hlinked, hnodup⟩, hmem⟩ := hs.ads
  refine ⟨allocate_registryInv hs.registry hf, fun h e he => ?_, ⟨l, ⟨?_, hnodup⟩, fun h e he => ?_⟩,
    fun h e he hnot => ?_⟩
  · rcases getElem?_concat_eq_some_iff.mp (hdescs ▸ he) with he | ⟨-, rfl⟩
    · exact hs.sound h e he
    · exact hfresh.sound
  · rw [hhead, hdescs]
    exact hlinked.congr fun k _ e he => ⟨e, getElem?_concat_eq_some_iff.mpr (.inl he), rfl⟩
  · rcases getElem?_concat_eq_some_iff.mp (hdescs ▸ he) with he | ⟨rfl, rfl⟩
    · exact hmem h e he
    · refine iff_of_false (fun hin => ?_) hfresh.not_timing
      obtain ⟨e, he⟩ := hlinked.exists_of_mem hin
      rw [List.getElem?_eq_none le_rfl] at he
      cases he
  · rcases getElem?_concat_eq_some_iff.mp (hdescs ▸ he) with he | ⟨-, rfl⟩
    · exact hs.unlinked h e he hnot
    · exact hfresh.2.2.2.2

theorem allocate_runningInv {s : State} {d : Descriptor} {bp : Nat} {bs : Option Nat} (hs : s.RunningInv)
    (hf : FreeFor s d bp bs) (hfresh : d.Fresh) (hlate : ¬ (s.armed = true ∧ s.params.lateReg = .fatal)) :
    (allocate d bp bs s).RunningInv := by
  obtain ⟨hregistry, hsound, hads, hunlinked⟩ := allocate_debounceInv hs.debounce hf hfresh
  have hall {P : Descriptor → Prop} (hold : ∀ (h : Nat) (e : Descriptor), s.descs[h]? = some e → P e) (hnew : P d)
      (h : Nat) (e : Descriptor) (he : (s.descs ++ [d])[h]? = some e) : P e := by
    rcases getElem?_concat_eq_some_iff.mp he with he | ⟨-, rfl⟩
    · exact hold h e he
    · exact hnew
  refine ⟨hregistry, hsound, hads, hunlinked, ?_, ?_, fun hskip => ?_, fun harmed => ?_, fun hfatal => ?_⟩
  all_goals rw [allocate_frame] at *
  · exact hs.div_lt
  · exact hs.skip_le
  · exact ⟨(hs.discarding hskip).1, hall (hs.discarding hskip).2 hfresh⟩
  · exact ⟨(hs.unarmed harmed).1, hall (hs.unarmed harmed).2 hfresh⟩
  · have hunarmed : s.armed = false := Bool.eq_false_iff.mpr fun harmed => hlate ⟨harmed, hfatal⟩
    refine hall (hs.tracks hfatal) ⟨?_, hfresh.agreesSettled⟩
    rw [show s.prev = 0#16 from (hs.unarmed hunarmed).1]
    exact hfresh.tracks

/-! ### The running invariant through a cycle -/

/-- A discarded cycle (R122) leaves every descriptor of a startup as it stood. -/
theorem cycled_of_discard {s t : State} {rx : Sample} (hs : s.RunningInv) (hskip : 0 < s.skip) (hc : s.CycledTo t rx)
    {h : Nat} {d : Descriptor} (hd : s.descs[h]? = some d) : t.descs[h]? = some d := by
  obtain ⟨e, b, hb, -, hunchanged, hstill, -, -⟩ := hc.each h d hd
  obtain rfl := hunchanged fun hyes => Nat.ne_of_gt hskip hyes.1
  rw [hb, hstill ((hs.discarding hskip).2 h e hd).not_timing]

/-- R46 (a), (b) through a compared cycle. -/
theorem cycled_tracks {s t : State} {rx : Sample} (hs : s.RunningInv) (hfatal : s.params.lateReg = .fatal)
    (hskip : s.skip = 0) (hc : s.CycledTo t rx) (hconfigs : t.configs = s.configs) {h : Nat} {b : Descriptor}
    (hb : t.descs[h]? = some b) : b.TracksSample rx ∧ b.AgreesSettled := by
  obtain ⟨d, hd, hconfig⟩ := getElem?_of_configs hconfigs hb
  obtain ⟨htracks, hagrees⟩ := hs.tracks hfatal h d hd
  have hsound := hs.sound h d hd
  obtain ⟨e, b', hb', hchanged, hunchanged, -, htick, hnotick⟩ := hc.each h d hd
  obtain rfl := Option.some.inj (hb.symm.trans hb')
  have hafter : e.Sound ∧ e.AgreesSettled ∧
      ∃ f : Descriptor, f.config = d.config ∧ f.raw = e.raw ∧ f.TracksSample rx := by
    by_cases hyes : s.Changes rx d
    · obtain ⟨hs', hagrees', -, -, hraw, -⟩ := event_suits hsound rx
      have hlink := hchanged hyes
      refine ⟨sound_of_apartFromLink hlink hs', ?_, d.sampled rx, rfl, ?_, sampled_tracks d rx⟩
      · rw [eq_of_apartFromLink hlink]
        exact hagrees'
      · rw [raw_of_apartFromLink hlink, hraw]
    · obtain rfl := hunchanged hyes
      refine ⟨hsound, hagrees, e, rfl, rfl, tracks_of_unchanged (fun p hp => ?_) htracks⟩
      by_contra hne
      exact hyes ⟨hskip, p, hp, hne⟩
  obtain ⟨hes, hea, f, hfc, hfraw, hft⟩ := hafter
  have hlast : b.raw = e.raw ∧ b.AgreesSettled := by
    by_cases hk : s.div + 1 = s.params.k
    · exact ⟨(htick hk).raw, (htick hk).agreesSettled hes hea⟩
    · rw [hnotick hk]
      exact ⟨rfl, hea⟩
  exact ⟨tracks_of_config (hconfig.symm.trans hfc.symm) (hlast.1.trans hfraw.symm) hft, hlast.2⟩

theorem cycleSteps_runningInv {s t : State} {rx : Sample} (hs : s.RunningInv) (harmed : s.armed = true)
    (ht : cycleSteps rx s = .ok t) : t.RunningInv := by
  have hc := cycleSteps_cycled hs.debounce ht
  have hconfigs := cycleSteps_configs ht
  have hfields := cycleSteps_eq ht
  have hback {h : Nat} {b : Descriptor} (hskip : 0 < s.skip) (hb : t.descs[h]? = some b) : s.descs[h]? = some b := by
    obtain ⟨d, hd, -⟩ := getElem?_of_configs hconfigs hb
    rw [hd, ← hb, cycled_of_discard hs hskip hc hd]
  have hparams : t.params = s.params := by rw [hfields]; rfl
  have hskip' : t.skip = s.skip - 1 := by rw [hfields]; rfl
  have hprev : t.prev = if 0 < s.skip then s.prev else rx := by rw [hfields]; rfl
  have hdiv : t.div = if s.div + 1 = s.params.k then 0 else s.div + 1 := by rw [hfields]; rfl
  have harmed' : t.armed = true := by rw [hfields]; exact harmed
  have hdiv_lt := hs.div_lt
  have hskip_le := hs.skip_le
  refine ⟨hc.inv.registry, hc.inv.sound, hc.inv.ads, hc.inv.unlinked, ?_, ?_, fun hpos => ?_, fun h => ?_,
    fun hfatal h b hb => ?_⟩
  · rw [hdiv, hparams]
    split <;> omega
  · rw [hskip', hparams]
    omega
  · have hskip : 0 < s.skip := by omega
    obtain ⟨hzero, hfresh⟩ := hs.discarding hskip
    rw [hprev, if_pos hskip]
    exact ⟨hzero, fun h b hb => hfresh h b (hback hskip hb)⟩
  · rw [harmed'] at h
    cases h
  · rw [hparams] at hfatal
    rw [hprev]
    by_cases hskip : 0 < s.skip
    · rw [if_pos hskip]
      exact hs.tracks hfatal h b (hback hskip hb)
    · rw [if_neg hskip]
      exact cycled_tracks hs hfatal (Nat.eq_zero_of_not_pos hskip) hc hconfigs hb

/-! ### Every agent's operation -/

/-- No operation sends a frame or takes one back (log 1). -/
theorem exec_inbox {i : Instr} {s t : State} (ht : exec i s = .next t) : t.inbox = s.inbox := by
  cases performed_of_exec ht with
  | reset | halted | started | outputSet | answered | taken => rfl
  | registered c nv mp ms kind mode dc dop _ _ hsteps =>
    obtain ⟨bp, bs, -, rfl⟩ := registerSteps_allocates hsteps
    rw [allocate_frame]
    rfl
  | cycled rx _ _ _ hc => rw [cycleSteps_eq hc]; rfl
  | abandoned rx code =>
    obtain ⟨_, _, _, _, -, heq⟩ := scanRangeResidue_frame rx s
    rw [heq]
  | fired _ _ _ _ _ _ hapart => rw [eq_of_apartFromDebounce hapart]

/-- R46: in an engine of at most 32 slots every operation of an agent keeps the invariant. -/
theorem exec_inv {i : Instr} {s t : State} (hs : s.Inv) (hslots : s.nSlots ≤ 32)
    (hagent : i.format = .pin ∨ i.format = .cmd ∨ i.format = .link) (ht : exec i s = .next t) : t.Inv := by
  have hphase := exec_phaseInv hs.phase ht
  have hagents : ∀ f ∈ t.inbox, f.fromAgent = true := by rw [exec_inbox ht]; exact hs.agents
  have hboundary : t.scratch = Scratch.idle ∧ (t.halted = false → t.RunningInv) := by
    cases performed_of_exec ht with
    | reset =>
      exact ⟨rfl, fun _ => runningInv_of_same (powerUp_runningInv s.params hslots) rfl rfl rfl rfl rfl rfl rfl id⟩
    | halted _ code _ => exact ⟨hs.idle, fun h => nomatch h⟩
    | registered c nv mp ms kind mode dc dop _ hrun hsteps =>
      obtain ⟨-, hlate, -⟩ := registerSteps_ok.mp hsteps
      obtain ⟨bp, bs, hfree, rfl⟩ := registerSteps_allocates hsteps
      have hnew := allocate_runningInv (hs.running hrun) hfree ⟨rfl, rfl, rfl, rfl, rfl⟩ hlate
      refine ⟨?_, fun _ => runningInv_of_same hnew rfl rfl rfl rfl rfl rfl rfl id⟩
      rw [allocate_frame]
      exact hs.idle
    | started hrun =>
      exact ⟨hs.idle, fun _ => runningInv_of_same (hs.running hrun) rfl rfl rfl rfl rfl rfl rfl fun h => nomatch h⟩
    | outputSet w hrun | taken c hrun =>
      exact ⟨hs.idle, fun _ => runningInv_of_same (hs.running hrun) rfl rfl rfl rfl rfl rfl rfl id⟩
    | answered h d hrun =>
      exact ⟨hs.idle, fun _ => runningInv_of_same (hs.running hrun) rfl rfl rfl rfl rfl rfl rfl id⟩
    | cycled rx _ hrun harmed hc =>
      exact ⟨cycleSteps_idle hs.idle hc, fun _ => cycleSteps_runningInv (hs.running hrun) harmed hc⟩
    | abandoned rx code =>
      refine ⟨?_, fun h => nomatch h⟩
      obtain ⟨_, _, _, _, -, heq⟩ := scanRangeResidue_frame rx s
      rw [heq]
    | fired _ _ hpin hcmd hlink =>
      rcases hagent with h | h | h
      · exact absurd h hpin
      · exact absurd h hcmd
      · exact absurd h hlink
  exact ⟨hphase, hboundary.1, hagents, hboundary.2⟩

/-- R46: in an engine of at most 32 slots every step keeps the invariant. -/
theorem step_inv {s t : State} (hs : s.Inv) (hslots : s.nSlots ≤ 32) (ht : step s = .next t) : t.Inv := by
  rcases step_next.mp ht with ⟨-, rfl⟩ | ⟨f, rest, i, hinbox, hdecode, hi⟩
  · exact hs
  · have hagent : i.format = .pin ∨ i.format = .cmd ∨ i.format = .link := by
      have hsent : f.fromAgent = true := hs.agents f (by rw [hinbox]; exact List.mem_cons_self)
      rw [(decodedIsWellFormed f i hdecode).2]
      cases f with
      | pin => exact .inl rfl
      | cmd ws => exact .inr (.inl rfl)
      | link rx => exact .inr (.inr rfl)
      | disp | pbev | setl | pair | tmem => cases hsent
    have hrest : State.Inv { s with inbox := rest } := by
      refine ⟨hs.phase, hs.idle, fun g hg => hs.agents g ?_, fun hrun => ?_⟩
      · rw [hinbox]
        exact List.mem_cons_of_mem f hg
      · exact runningInv_of_same (hs.running hrun) rfl rfl rfl rfl rfl rfl rfl id
    exact exec_inv hrest hslots hagent hi

/-! ### The step that breaks the invariant -/

/-- A halted engine with 33 slots and the RESET pin to come. While HALTED = 1 the invariant does not speak of N. -/
def overlongHalt : State :=
  { State.powerUp { kPred := 0, nDiscard := 0, scanDir := .msf, lateReg := .fatal } 33 with
    halted := true, err := 1#4, inbox := [.pin] }

theorem overlongHalt_inv : overlongHalt.Inv where
  phase := ⟨fun h => (nomatch h), fun _ => by decide⟩
  idle := rfl
  agents f hf := by
    obtain rfl := List.mem_singleton.mp hf
    rfl
  running h := nomatch h

/-- Refutes O56: RESET brings a halted engine of 33 slots, which meets the invariant, to a running engine of 33 slots,
where the invariant asks for N <= 32. `step_inv` says that this is the only way it fails. -/
theorem not_stepKeepsInvariant : ¬ Obligations.StepKeepsInvariant := by
  intro hkeeps
  have hreset : step overlongHalt = .next { State.powerUp overlongHalt.params overlongHalt.nSlots with
      inbox := [], outbox := [], draws := 0 } := rfl
  have hslots := ((hkeeps _ _ overlongHalt_inv hreset).running rfl).registry.slots_le
  exact absurd hslots (by decide)

end Sys2Proof.Machine
end
